-- ==== Sys2Proof/Word.lean ====
section
/-! DEFINITION. The words and the numbered objects of the FG7248 (00_scope.md, 2.1 and 2.2). -/

namespace Sys2Proof

/-- One octet of a trunk, a lane, a request or a response. Bit 7 is its most significant bit (2.2). -/
abbrev Octet := BitVec 8

/-- A 16-bit field of a message. -/
abbrev Word16 := BitVec 16

/-- A value of the tick counter: LO ticks modulo 2^32 (R50). -/
abbrev Tick := BitVec 32

/-- The 32-bit count of exchange multiframes (R52). -/
abbrev Epoch := BitVec 32

/-- Trunks 0–47 (2.2). -/
abbrev Trunk := Fin 48

/-- Lanes 0–47 of a plane (2.2). -/
abbrev Lane := Fin 48

/-- Timing candidate c, 1–8, is the value c − 1 (2.2); none is an absent value. -/
abbrev Cand := Fin 8

/-- A quality level, 0–15 (2.3). -/
abbrev Ql := Fin 16

/-- The 32 traffic channels of a frame (5.1). -/
abbrev Traffic := Vector Octet 32

/-- The two maintenance links (2.2). -/
inductive LinkId where
  | a | b
deriving DecidableEq, Repr

/-- The two switching planes (2.2). -/
inductive Plane where
  | a | b
deriving DecidableEq, Repr

/-- The two station inputs (2.2). -/
inductive Station where
  | s1 | s2
deriving DecidableEq, Repr

end Sys2Proof
end

