-- ==== Sys2Proof/Syntax.lean ====
section
/-! DEFINITION. The commands of the FG7248: one constructor per row of spec/opcode_table.json. -/

namespace Sys2Proof

/-- The steps of the part. A request row stands for a request of that kind received whole on link `l` with the tag,
the operand octets and the check it carried (R151, R153); `ord` says in which order the blocks take a step that
several blocks take at one instant (00_scope.md, 2.4; assumption 3). -/
inductive Instr where
  /-- TRUNK_OCTET_ARRIVAL (R1) -/
  | trunkOctetArrival (t : Trunk) (o : Octet)
  /-- LOSS_OF_SIGNAL_EXPIRY (R3) -/
  | lossOfSignalExpiry (t : Trunk)
  /-- EXCHANGE_FRAME_START (R51) -/
  | exchangeFrameStart (ord : Nat)
  /-- CAPTURE_COMPLETION (R44) -/
  | captureCompletion (l : LinkId)
  /-- WAIT_END (R121) -/
  | waitEnd (c : Cand)
  /-- ACQUIRE_TIMEOUT (R140, R123) -/
  | acquireTimeout
  /-- SLIP_WINDOW_END (R40): the store that ends its window -/
  | slipWindowEnd (t : Trunk)
  /-- STATION_INPUT_EDGE (R71) -/
  | stationInputEdge (i : Station)
  /-- WINDOW_END (R75) -/
  | windowEnd (c : Cand)
  /-- ACTIVITY_TIMER_EXPIRY (R76) -/
  | activityTimerExpiry (c : Cand)
  /-- COMMIT_APPLY (R160) -/
  | commitApply (ord : Nat)
  /-- INTER_OCTET_TIMER_EXPIRY (R152) -/
  | interOctetTimerExpiry (l : LinkId)
  /-- RESPONSE_SENT (R154) -/
  | responseSent (l : LinkId)
  /-- IDENTIFY, kind 1 (R170) -/
  | identify (l : LinkId) (tag : Octet) (check : Word16)
  /-- READ, kind 2 (R157) -/
  | read (l : LinkId) (tag item index1 index2 selector : Octet) (check : Word16)
  /-- STAGE, kind 3 (R158): `value` is what follows the item and its two indexes -/
  | stage (l : LinkId) (tag item index1 index2 : Octet) (value : List Octet) (check : Word16)
  /-- COMMIT, kind 4 (R159) -/
  | commit (l : LinkId) (tag : Octet) (expected : Word16) (check : Word16)
  /-- DISCARD, kind 5 (R158) -/
  | discard (l : LinkId) (tag : Octet) (check : Word16)
  /-- SWITCH LOCKOUT, kind 6 action 1 (R112) -/
  | lockout (l : LinkId) (tag operand option : Octet) (check : Word16)
  /-- SWITCH UNLOCK, kind 6 action 2 (R113) -/
  | unlock (l : LinkId) (tag operand option : Octet) (check : Word16)
  /-- SWITCH FORCE, kind 6 action 3 (R114) -/
  | force (l : LinkId) (tag operand option : Octet) (check : Word16)
  /-- SWITCH FORCE HOLDOVER, kind 6 action 4 (R114) -/
  | forceHoldover (l : LinkId) (tag operand option : Octet) (check : Word16)
  /-- SWITCH MANUAL, kind 6 action 5 (R115) -/
  | manual (l : LinkId) (tag operand option : Octet) (check : Word16)
  /-- SWITCH RELEASE FORCED, kind 6 action 6 level 1 (R117) -/
  | releaseForced (l : LinkId) (tag option : Octet) (check : Word16)
  /-- SWITCH RELEASE MANUAL, kind 6 action 6 level 2 (R118) -/
  | releaseManual (l : LinkId) (tag option : Octet) (check : Word16)
  /-- SWITCH CLEAR-WAIT, kind 6 action 7 (R122) -/
  | clearWait (l : LinkId) (tag operand option : Octet) (check : Word16)
  /-- TRUNK RESTART, kind 7 action 1 (R18) -/
  | restart (l : LinkId) (tag trunk : Octet) (check : Word16)
  /-- TRUNK RECENTER, kind 7 action 2 (R32) -/
  | recenter (l : LinkId) (tag trunk : Octet) (check : Word16)
  /-- CAPTURE, kind 8 (R43) -/
  | capture (l : LinkId) (tag trunk : Octet) (check : Word16)
  /-- EVENTS, kind 9 (R168) -/
  | events (l : LinkId) (tag count : Octet) (check : Word16)
  /-- CLEAR COUNTERS, kind 10 option 1 (R37) -/
  | clearCounters (l : LinkId) (tag : Octet) (check : Word16)
  /-- CLEAR RESET-CAUSE, kind 10 option 2 (R170) -/
  | clearResetCause (l : LinkId) (tag : Octet) (check : Word16)
  /-- MASK, kind 11 (R169) -/
  | mask (l : LinkId) (tag newMask : Octet) (check : Word16)
  /-- RESET LINK, kind 12 operand 1 (R163) -/
  | resetLink (l : LinkId) (tag : Octet) (check : Word16)
  /-- RESET PART, kind 12 operand 2 (R164, R172) -/
  | resetPart (l : LinkId) (tag : Octet) (check : Word16)
  /-- PIN_RESET_ASSERT (R54) -/
  | pinResetAssert
  /-- PIN_RESET_RELEASE (R171) -/
  | pinResetRelease
  /-- POWER_ON_RESET_RELEASE (R171) -/
  | powerOnResetRelease
  /-- REQUEST_LINE_OCTET_ARRIVAL (R152) -/
  | requestLineOctetArrival (l : LinkId) (o : Octet)
  /-- BAD_KIND_REQUEST (R153): a request received whole whose kind is 0 or above 12 -/
  | badKindRequest (l : LinkId) (tag kind : Octet) (body : List Octet) (check : Word16)
deriving DecidableEq, Repr

end Sys2Proof
end

