-- ==== Sys2Proof/Decode.lean ====
section
/-! DEFINITION. The command a table word spells: no row of spec/opcode_table.json gives bits, so none. -/

namespace Sys2Proof

/-- No row of the table has fixed bits or fields: no word spells a command. -/
def decodeTableWord (_nbits _w : Nat) : Option Instr := none

end Sys2Proof
end

