-- ==== Sys2Proof/Config.lean ====
section
/-! DEFINITION. What the part fixes once, and the one free value of the model. -/

namespace Sys2Proof

/-- The loss-of-signal timer: two nominal frames (R3). -/
def Config.losTicks : Nat := 6144

/-- The activity timer: three nominal frames (R76). -/
def Config.activityTicks : Nat := 9216

/-- The inter-octet timer: 256 µs (R152). -/
def Config.interOctetTicks : Nat := 6292

/-- Intervals of a monitor window (R75). -/
def Config.windowIntervals : Nat := 512

/-- A monitor window at the nominal rate: 512 × 3072 ticks (R75). -/
def Config.windowTicks : Int := 1572864

/-- Samples of an acquisition (R140). -/
def Config.acquireSamples : Nat := 1024

/-- Multiframes in a second (2.1). -/
def Config.multiframesPerSecond : Nat := 500

/-- Ticks of a timing-output marker (R64). -/
def Config.tmoMarkerTicks : Nat := 256

/-- FREE VALUE (assumption 3). Events at one instant are taken in an order the spec leaves open (00_scope.md, 2.4).
The n-th draw of the idle step, for the use numbered k; nothing constrains it. -/
opaque Config.freeOrder : Nat → Nat → Nat

end Sys2Proof
end

