-- ==== Sys2Proof/Machine/State.lean ====
section
/-! DEFINITION. The state of the FG7248 as plain data, its value right after a power-on reset, and the reasons to stop. -/

namespace Sys2Proof.Machine

/-! ### Trunk reception (chapter 1) -/

/-- What an aligned framer keeps beside the octets of the current frame (R7, R8). -/
structure Alignment where
  /-- the frame number the flywheel expects of the current frame -/
  expected : Fin 16
  /-- whether the current frame was found errored at its position 1 -/
  errored : Bool
  /-- the consecutive-errored count, of completed frames (assumption 23) -/
  erroredRun : Nat
deriving DecidableEq, Repr

/-- The five framer states (1.2) with the search data each holds. -/
inductive FramerState where
  | off
  | noSignal
  /-- searching; whether the octet just examined was 0xB4 and so may begin a candidate position (R5) -/
  | hunt (afterB4 : Bool)
  /-- a candidate position with its frame number f and the octets retained from position p + 1 on (R5, R6) -/
  | confirm (f : Fin 16) (retained : List Octet)
  | aligned (a : Alignment)
deriving DecidableEq, Repr

/-- Framer t (1.2 to 1.8). -/
structure Framer where
  state : FramerState
  los : Bool
  ais : Bool
  rdi : Bool
  /-- consecutive 0xFF octets, stopping at 72 (R12) -/
  aisRun : Nat
  /-- the tick the loss-of-signal timer runs from; absent while it is stopped (R3) -/
  losFrom : Option Tick
  /-- stamp of the octet at position 0 of the current frame, or at p + 72 during confirmation (R7, R8) -/
  frameStamp : Tick
  /-- the persisted QL, the run of R15 and the QL last received -/
  ql : Ql
  qlRun : Nat
  qlLast : Ql
  /-- the source identifier, the kept high octet and the previously assembled value (R16) -/
  sourceId : Option Word16
  keptHigh : Option Octet
  prevId : Option Word16
  alignErrors : Nat
deriving DecidableEq, Repr

/-! ### Elastic stores (chapter 2) -/

/-- One completed frame as the framer hands it over (R9). -/
structure FrameRecord where
  traffic : Traffic
  ql : Ql
  rdi : Bool
  number : Fin 16
  errored : Bool
  stamp : Tick
deriving DecidableEq, Repr

/-- The frame a store yields at an exchange frame start (2.1). -/
inductive Delivered where
  | fresh (r : FrameRecord)
  | repeated (r : FrameRecord)
  | idle
deriving DecidableEq, Repr

inductive StoreState where
  | idle | priming | run
deriving DecidableEq, Repr

inductive SlipKind where
  | repeated | deleted | recenter
deriving DecidableEq, Repr

/-- A slip history record (R38). -/
structure SlipRecord where
  kind : SlipKind
  epoch : Epoch
  frame : Fin 16
  held : Nat
deriving DecidableEq, Repr

/-- Elastic store t (2.1). Pending captures are the links' outstanding requests. -/
structure Store where
  state : StoreState
  /-- complete frames, oldest first -/
  queue : List FrameRecord
  /-- the octets so far of the frame now arriving; empty when absent (R20) -/
  inProgress : List Octet
  last : Option FrameRecord
  transit : Option Nat
  repeats : Nat
  deletes : Nat
  /-- slip records, oldest first -/
  history : List SlipRecord
  windowCount : Nat
  slipExcess : Bool
  slipRate : Option Nat
  /-- the window in progress has been complete for the trunk so far (R41) -/
  windowComplete : Bool
  /-- epoch of the multiframe start at which the window in progress began (R40) -/
  windowFrom : Epoch
  /-- the wander windows of links A and B: minimum and maximum (R34) -/
  wanderA : Option (Nat × Nat)
  wanderB : Option (Nat × Nat)
deriving DecidableEq, Repr

/-- A link's capture record (R44): the delivered frame and, for a fresh one, its transit delay. -/
structure CaptureRecord where
  delivered : Delivered
  transit : Option Nat
deriving DecidableEq, Repr

/-! ### Exchange timing and outputs (chapter 3) -/

/-- The timing generator (3.1). -/
structure Generator where
  tick : Tick
  frameStart : Tick
  frameLength : Nat
  frameNumber : Fin 16
  epoch : Epoch
  frameQl : Ql
deriving DecidableEq, Repr

/-- What store t and framer t hand to the lane assembly at an exchange frame start (R26, R58). -/
structure Handover where
  delivered : Delivered
  /-- framer t had LOS or AIS set at the hand-over -/
  alarm : Bool
deriving DecidableEq, Repr

/-- One lane frame: octets 1, 2, 3 and the traffic; octet 0 is 0xB4 (5.2). -/
structure LaneFrame where
  number : Octet
  status : Octet
  source : Octet
  traffic : Traffic
deriving DecidableEq, Repr

/-- What the plane ports and the timing outputs hold for the exchange frame in progress (3.3 to 3.6). -/
structure Outputs where
  handed : Vector Handover 48
  lanesA : Vector LaneFrame 48
  lanesB : Vector LaneFrame 48
  squelched1 : Bool
  squelched2 : Bool
deriving DecidableEq, Repr

/-! ### Candidates (chapters 4 to 6) -/

inductive MonitorState where
  | absent | inactive | measuring | valid | outOfRange
deriving DecidableEq, Repr

/-- A wait-to-restore (R120, R121). A definite wait keeps the epoch of the multiframe start at which it began or was
last counted down, so that no start counts it twice. -/
inductive Wait where
  | definite (remaining : Nat) (counted : Epoch)
  | indefinite
deriving DecidableEq, Repr

/-- The runtime record of candidate c (R68). -/
structure Runtime where
  state : MonitorState
  latest : Option Tick
  interval : Option Nat
  windowStart : Option Tick
  intervals : Nat
  hits : Nat
  deviation : Option Int
  lastHits : Option Nat
  /-- the tick the activity timer runs from; absent while it is stopped (R76) -/
  activityFrom : Option Tick
  cls : Fin 8
  /-- the class before an activity loss that was taken ahead of the class evaluation of its instant, until that
  evaluation has raised its CLASS event (R101; assumption 26) -/
  lostCls : Option (Fin 8)
  loop : Bool
  wait : Option Wait
  hasQualified : Bool
  lockFail : Bool
deriving DecidableEq, Repr

/-- A standing FORCED request with its return record (6.1, R116); an absent target is HOLDOVER. -/
structure Forced where
  target : Option Cand
  link : LinkId
  epoch : Epoch
  ret : Option Cand
deriving DecidableEq, Repr

/-- A standing MANUAL request with its return record (6.1, R116). -/
structure Manual where
  target : Cand
  link : LinkId
  epoch : Epoch
  ret : Option Cand
deriving DecidableEq, Repr

/-- The reference selector (6.1). -/
structure Selector where
  selection : Option Cand
  lockout : Vector Bool 8
  forced : Option Forced
  manual : Option Manual
  /-- candidates whose acquire timeout the synthesizer has handed over and the selector has not taken (R140) -/
  timeouts : List Cand
deriving DecidableEq, Repr

/-! ### The synthesizer (chapter 7) -/

inductive SynthState where
  | freerun | acquire | locked | holdover
deriving DecidableEq, Repr

/-- The last sample (7.1). -/
structure Sample where
  raw : Nat
  d : Int
  e : Int
deriving DecidableEq, Repr

/-- The exchange synthesizer (7.1). Its selection is the selector's. -/
structure Synth where
  state : SynthState
  f : Int
  i : Int
  h : Int
  history : Nat
  o : Nat
  buildOut : Bool
  r : Nat
  lockCount : Nat
  lossCount : Nat
  acquireTimer : Nat
  timeoutCount : Nat
  last : Option Sample
  exchangeQl : Ql
deriving DecidableEq, Repr

/-! ### Configuration (chapter 8 and the items' own rules) -/

/-- TRUNK-CONFIG[t] (R156). -/
structure TrunkConfig where
  enabled : Bool
  threshold : Nat
deriving DecidableEq, Repr

/-- LANE[plane][lane] (R55). -/
inductive LaneSource where
  | trunk (t : Trunk)
  | idle
  | test
deriving DecidableEq, Repr

/-- The source of a candidate (R68). -/
inductive Source where
  | none
  | trunk (t : Trunk)
  | station (i : Station)
deriving DecidableEq, Repr

/-- CANDIDATE[c] (R68). -/
structure CandConfig where
  enabled : Bool
  source : Source
  priority : Nat
  assumedQl : Ql
deriving DecidableEq, Repr

/-- The field a rule reads (R91). -/
inductive RuleField where
  | ql | rdi | sourceId | freqDev | phaseHits | slipRate | slipExcess | index | station
deriving DecidableEq, Repr

inductive RuleOp where
  | eq | ne | gt | lt
deriving DecidableEq, Repr

inductive RuleAction where
  | cls (c : Fin 8)
  | map
deriving DecidableEq, Repr

/-- RULE[r] (R91). -/
structure Rule where
  enabled : Bool
  join : Bool
  field : RuleField
  op : RuleOp
  value : Word16
  mask : Word16
  action : RuleAction
deriving DecidableEq, Repr

/-- SELECTOR-CONFIG (R103). -/
structure SelectorConfig where
  quality : Bool
  revertive : Bool
  wtr : Nat
  defaultClass : Fin 8
deriving DecidableEq, Repr

/-- SYNTH-CONFIG (R128). -/
structure SynthConfig where
  band : Fin 4
  f0 : Int
  holdoverQl : Ql
  freerunQl : Ql
deriving DecidableEq, Repr

/-- The committed configuration: one value for each stageable item (R156). -/
structure Settings where
  trunks : Vector TrunkConfig 48
  lanesA : Vector LaneSource 48
  lanesB : Vector LaneSource 48
  patternA : Traffic
  patternB : Traffic
  cands : Vector CandConfig 8
  rules : Vector Rule 16
  loopGuard : Vector (Option Word16) 4
  selector : SelectorConfig
  freqLimit : Nat
  synth : SynthConfig
  squelch1 : Ql
  squelch2 : Ql
deriving DecidableEq, Repr

/-- The stageable item instances (R156, codes 1 to 10). -/
inductive StageItem where
  | trunk (t : Trunk)
  | lane (p : Plane) (i : Lane)
  | pattern (p : Plane)
  | candidate (c : Cand)
  | rule (r : Fin 16)
  | loopGuard (k : Fin 4)
  | selector
  | monitor
  | synth
  /-- OUTPUT-CONFIG[1] and OUTPUT-CONFIG[2] are 0 and 1 here -/
  | output (n : Fin 2)
deriving DecidableEq, Repr

/-- An item instance with a value: what a staging area holds (R158). -/
inductive ItemValue where
  | trunk (t : Trunk) (v : TrunkConfig)
  | lane (p : Plane) (i : Lane) (v : LaneSource)
  | pattern (p : Plane) (v : Traffic)
  | candidate (c : Cand) (v : CandConfig)
  | rule (r : Fin 16) (v : Rule)
  | loopGuard (k : Fin 4) (v : Option Word16)
  | selector (v : SelectorConfig)
  | monitor (v : Nat)
  | synth (v : SynthConfig)
  | output (n : Fin 2) (v : Ql)
deriving DecidableEq, Repr

/-- The pending commit: the link that made it, and the epoch that the multiframe start it waits for begins (R160,
R162). -/
structure PendingCommit where
  link : LinkId
  start : Epoch
deriving DecidableEq, Repr

/-! ### Events (chapter 9) and links (chapter 8) -/

/-- The event kinds of R166, in code order. -/
inductive EventKind where
  | trunkState | trunkAlarm | slip | slipExcess | monitor | cls | loop | selection | requestDropped
  | synthState | holdoverValid | acquireTimeout | configCommitted | countersCleared | reset
deriving DecidableEq, Repr

/-- The subject of an event (R166). -/
inductive Subject where
  | none
  | trunk (t : Trunk)
  | candidate (c : Cand)
  | link (l : LinkId)
deriving DecidableEq, Repr

/-- An event record (R166). -/
structure Event where
  kind : EventKind
  subject : Subject
  epoch : Epoch
  detail : Word16
deriving DecidableEq, Repr

inductive LinkState where
  | ready | serving | waiting
deriving DecidableEq, Repr

/-- The status codes of 5.3. -/
inductive Status where
  | ok | busy | badCheck | badKind | badLength | badItem | badValue | stale | empty | commitPending | conflict
  | outranked | lockedOut | notEnabled | notEligible | notStanding | invalidState
deriving DecidableEq, Repr

/-- A response (5.3, R153): all fields but the start octet, the body length and the check, which follow from them. -/
structure Response where
  kind : Octet
  tag : Octet
  status : Status
  generation : Word16
  flags : Octet
  body : List Octet
deriving DecidableEq, Repr

/-- The request a link in WAITING awaits the completion of (R151). A capture holds what its read handed over until the
completion takes it (R26, R44). -/
inductive Work where
  | commit
  | capture (t : Trunk) (handed : Option CaptureRecord)
deriving DecidableEq, Repr

/-- An outstanding request with the kind and tag its response echoes. -/
structure Outstanding where
  kind : Octet
  tag : Octet
  work : Work
deriving DecidableEq, Repr

/-- One maintenance link (8.1, 9.2). -/
structure Link where
  state : LinkState
  /-- the octets of the request in reception, start octet first; empty when absent (R152) -/
  reception : List Octet
  /-- the tick the inter-octet timer runs from; absent while it is stopped (R152) -/
  octetFrom : Option Tick
  outstanding : Option Outstanding
  sending : Option Response
  waiting : List Response
  staging : List ItemValue
  queue : List Event
  overflow : Bool
  mask : Octet
  capture : Option CaptureRecord
deriving DecidableEq, Repr

/-- The level of a station input at this tick and at the tick before, as far as the edges taken show it (R71). -/
structure StationLevel where
  high : Bool
  wasHigh : Bool
deriving DecidableEq, Repr

/-! ### The whole part -/

/-- The state of the FG7248 and the queue of the commands that wait for it. -/
structure State where
  gen : Generator
  out : Outputs
  framers : Vector Framer 48
  stores : Vector Store 48
  cands : Vector Runtime 8
  sel : Selector
  synth : Synth
  linkA : Link
  linkB : Link
  cfg : Settings
  generation : Word16
  commit : Option PendingCommit
  /-- the configuration store has applied a commit at this instant, and so has taken the multiframe start (R162) -/
  applied : Bool
  /-- the reset-cause record (R170) -/
  cause : Octet
  /-- the reset pin is held low (R54) -/
  pinHeld : Bool
  s1 : StationLevel
  s2 : StationLevel
  /-- draws made from Config.freeOrder (assumption 3) -/
  free : Nat
  /-- commands waiting to be taken, first in first out (assumption 1) -/
  pending : List Instr
deriving DecidableEq, Repr

/-! ### Reset values -/

/-- The idle frame's traffic (2.1). -/
def idleTraffic : Traffic := Vector.replicate 32 0xFE#8

/-- A framer in OFF (R19). -/
def Framer.reset : Framer :=
  { state := .off, los := false, ais := false, rdi := false, aisRun := 0, losFrom := none, frameStamp := 0,
    ql := 0, qlRun := 0, qlLast := 0, sourceId := none, keptHigh := none, prevId := none, alignErrors := 0 }

/-- A store in IDLE (R49). -/
def Store.reset : Store :=
  { state := .idle, queue := [], inProgress := [], last := none, transit := none, repeats := 0, deletes := 0,
    history := [], windowCount := 0, slipExcess := false, slipRate := none, windowComplete := false,
    windowFrom := 0, wanderA := none, wanderB := none }

/-- The runtime record after power-on and pin reset (R68, R86). -/
def Runtime.reset : Runtime :=
  { state := .absent, latest := none, interval := none, windowStart := none, intervals := 0, hits := 0,
    deviation := none, lastHits := none, activityFrom := none, cls := 0, lostCls := none, loop := false,
    wait := none, hasQualified := false, lockFail := false }

/-- The selector after every kind of reset (6.1, R127). That a timeout handed over and not yet taken does not outlive the
reset is the model's choice (R123; assumption 29). -/
def Selector.reset : Selector :=
  { selection := none, lockout := Vector.replicate 8 false, forced := none, manual := none, timeouts := [] }

/-- The synthesizer after power-on and pin reset (R149). -/
def Synth.reset : Synth :=
  { state := .freerun, f := 0, i := 0, h := 0, history := 0, o := 0, buildOut := false, r := 0, lockCount := 0,
    lossCount := 0, acquireTimer := 0, timeoutCount := 0, last := none, exchangeQl := 14 }

/-- RULE[r] after power-on and pin reset (R91). -/
def Rule.reset : Rule :=
  { enabled := false, join := false, field := .ql, op := .eq, value := 0, mask := 0xFFFF, action := .cls 0 }

/-- The default configuration (R156 and the items' own rules). -/
def Settings.reset : Settings :=
  { trunks := Vector.replicate 48 { enabled := false, threshold := 4 }
    lanesA := Vector.ofFn fun i => .trunk i
    lanesB := Vector.ofFn fun i => .trunk i
    patternA := Vector.replicate 32 0
    patternB := Vector.replicate 32 0
    cands := Vector.replicate 8 { enabled := false, source := .none, priority := 1, assumedQl := 0 }
    rules := Vector.replicate 16 Rule.reset
    loopGuard := Vector.replicate 4 none
    selector := { quality := true, revertive := false, wtr := 300, defaultClass := 4 }
    freqLimit := 24
    synth := { band := 1, f0 := 0, holdoverQl := 12, freerunQl := 14 }
    squelch1 := 15
    squelch2 := 15 }

/-- The default event mask: every class but SLIP (R169). -/
def defaultMask : Octet := 0x3D

/-- A link after power-on and pin reset, its queue holding the RESET event of the release (R171, 8.1). -/
def Link.reset (cause : Octet) : Link :=
  { state := .ready, reception := [], octetFrom := none, outstanding := none, sending := none, waiting := [],
    staging := [], queue := [{ kind := .reset, subject := .none, epoch := 0, detail := cause.setWidth 16 }],
    overflow := false, mask := defaultMask, capture := none }

/-- The lane frame of lane i in frame 0 at reset release: the idle frame of trunk i under frame QL 14 (R63). -/
def LaneFrame.reset (i : Lane) : LaneFrame :=
  { number := 0xA0, status := 0x4E, source := BitVec.ofNat 8 i.val, traffic := idleTraffic }

/-- The part at the release of a power-on reset (`cause` 0x01) or a pin reset (0x02) (R171). -/
def State.released (cause : Octet) : State :=
  { gen := { tick := 0, frameStart := 0, frameLength := 3072, frameNumber := 0, epoch := 0, frameQl := 14 }
    out := { handed := Vector.replicate 48 { delivered := .idle, alarm := false }
             lanesA := Vector.ofFn LaneFrame.reset
             lanesB := Vector.ofFn LaneFrame.reset
             squelched1 := false
             squelched2 := false }
    framers := Vector.replicate 48 Framer.reset
    stores := Vector.replicate 48 Store.reset
    cands := Vector.replicate 8 Runtime.reset
    sel := Selector.reset
    synth := Synth.reset
    linkA := Link.reset cause
    linkB := Link.reset cause
    cfg := Settings.reset
    generation := 0
    commit := none
    applied := false
    cause := cause
    pinHeld := false
    s1 := { high := false, wasHigh := false }
    s2 := { high := false, wasHigh := false }
    free := 0
    pending := [] }

/-- The machine right after reset: the release of a power-on reset (R171). -/
def State.reset : State := State.released 0x01

/-! ### Stops -/

/-- The spec gives the part no fault: every step of the table ends in a next state, so nothing raises one. -/
inductive Fault where
deriving DecidableEq, Repr

/-- Why a command is refused. -/
inductive Refusal where
  /-- raised by Machine/Dispatch.lean for a command that has no meaning yet; safe: nothing is claimed of it -/
  | notModelled (mnemonic : String)
deriving DecidableEq, Repr

/-- What a step answers. -/
abbrev Result := Host.Outcome State Fault Refusal

end Sys2Proof.Machine
end

