-- ==== Sys2Proof/Machine/Operands.lean ====
section
/-! DEFINITION. Octets of messages: fields high octet first, the check, requests, items and their values. -/

namespace Sys2Proof.Machine

/-! ### Fields -/

/-- A number as one octet. -/
def octet (n : Nat) : Octet := BitVec.ofNat 8 n

/-- A 0-or-1 octet. -/
def flagOctet (b : Bool) : Octet := if b then 1 else 0

/-- A 2-octet field, high octet first (2.2). -/
def be16 (w : Word16) : List Octet := [w.extractLsb' 8 8, w.extractLsb' 0 8]

/-- A 4-octet field, high octet first (2.2). -/
def be32 (w : BitVec 32) : List Octet :=
  [w.extractLsb' 24 8, w.extractLsb' 16 8, w.extractLsb' 8 8, w.extractLsb' 0 8]

/-- A count in a 2-octet field. -/
def nat16 (n : Nat) : List Octet := be16 (BitVec.ofNat 16 n)

/-- A signed number in a 2-octet two's complement field. -/
def int16 (x : Int) : List Octet := be16 (BitVec.ofInt 16 x)

/-- The 16-bit value of a high and a low octet. -/
def word16 (hi lo : Octet) : Word16 := hi ++ lo

/-- The high and low nibble of an octet (5.1). -/
def highNibble (o : Octet) : Fin 16 := Fin.ofNat 16 (o.toNat / 16)
def lowNibble (o : Octet) : Fin 16 := Fin.ofNat 16 o.toNat

/-- A value held within bounds by an item's clamp (R158). -/
def clampNat (lo hi n : Nat) : Nat := max lo (min hi n)

/-- A number below `n` read from an octet. -/
def below (n : Nat) (o : Octet) : Option (Fin n) :=
  if h : o.toNat < n then some ⟨o.toNat, h⟩ else none

/-- A candidate operand, 1 to 8 (R111, R156). -/
def candidateOf (o : Octet) : Option Cand := if o = 0 then none else below 8 (o - 1)

/-- A candidate, or none as 0 (2.2). -/
def candidateOctet : Option Cand → Octet
  | none => 0
  | some c => octet (c.val + 1)

/-- Link A is 0 and link B is 1 (R126, R165, R166). -/
def linkOctet : LinkId → Octet
  | .a => 0
  | .b => 1

/-! ### The check (5.3) -/

/-- One bit of the CRC with polynomial x^16 + x^12 + x^5 + 1, most significant bit first. -/
def crcShift (crc : Word16) : Word16 := if crc.msb then (crc <<< 1) ^^^ 0x1021#16 else crc <<< 1

def crcOctet (crc : Word16) (o : Octet) : Word16 :=
  crcShift (crcShift (crcShift (crcShift (crcShift (crcShift (crcShift (crcShift
    (crc ^^^ (o.setWidth 16 <<< 8)))))))))

/-- The check of a message: initial value 0xFFFF and no final inversion. -/
def checkOf (os : List Octet) : Word16 := os.foldl crcOctet 0xFFFF

/-! ### Requests and responses -/

/-- A request received whole: what stands between its start octet and its end (5.3). -/
structure Request where
  kind : Octet
  tag : Octet
  body : List Octet
  check : Word16
deriving DecidableEq, Repr

/-- The check over the kind, tag, length and body octets (R153). -/
def Request.rightCheck (q : Request) : Word16 := checkOf (q.kind :: q.tag :: octet q.body.length :: q.body)

/-- The octets of a request as its line carries them (5.3). -/
def Request.octets (q : Request) : List Octet :=
  0x7E :: q.kind :: q.tag :: octet q.body.length :: q.body ++ be16 q.check

/-- Status codes (5.3). -/
def Status.code : Status → Octet
  | .ok => 0 | .busy => 1 | .badCheck => 2 | .badKind => 3 | .badLength => 4 | .badItem => 5 | .badValue => 6
  | .stale => 7 | .empty => 8 | .commitPending => 9 | .conflict => 10 | .outranked => 11 | .lockedOut => 12
  | .notEnabled => 13 | .notEligible => 14 | .notStanding => 15 | .invalidState => 16

/-- A response's octets from its kind to its last body octet. -/
def Response.checked (r : Response) : List Octet :=
  r.kind :: r.tag :: r.status.code :: be16 r.generation ++ (r.flags :: octet r.body.length :: r.body)

/-- The octets a response line carries for a response (5.3, R154). -/
def Response.octets (r : Response) : List Octet := 0x7E :: r.checked ++ be16 (checkOf r.checked)

/-! ### Items (R156) -/

/-- The read-only items, codes 16 to 26. -/
inductive StatusItem where
  | trunk (t : Trunk)
  | store (t : Trunk)
  | history (t : Trunk)
  | wander (t : Trunk)
  | candidate (c : Cand)
  | selector
  | synth
  | timing
  | cause
  | link
  | capture
deriving DecidableEq, Repr

def planeOf (o : Octet) : Option Plane := if o = 0 then some .a else if o = 1 then some .b else none

/-- OUTPUT-CONFIG[n]: output 1 or 2. -/
def outputOf (o : Octet) : Option (Fin 2) := if o = 0 then none else below 2 (o - 1)

/-- The stageable item an item code and two indexes name; none where R156 refuses BAD-ITEM. -/
def stageItemOf (code i1 i2 : Octet) : Option StageItem :=
  if code = 1 then (below 48 i1).map .trunk
  else if code = 2 then
    match planeOf i1, below 48 i2 with
    | some p, some i => some (.lane p i)
    | _, _ => none
  else if code = 3 then (planeOf i1).map .pattern
  else if code = 4 then (candidateOf i1).map .candidate
  else if code = 5 then (below 16 i1).map .rule
  else if code = 6 then (below 4 i1).map .loopGuard
  else if code = 7 then some .selector
  else if code = 8 then some .monitor
  else if code = 9 then some .synth
  else if code = 10 then (outputOf i1).map .output
  else none

/-- The read-only item an item code and index name. -/
def statusItemOf (code i1 : Octet) : Option StatusItem :=
  if code = 16 then (below 48 i1).map .trunk
  else if code = 17 then (below 48 i1).map .store
  else if code = 18 then (below 48 i1).map .history
  else if code = 19 then (below 48 i1).map .wander
  else if code = 20 then (candidateOf i1).map .candidate
  else if code = 21 then some .selector
  else if code = 22 then some .synth
  else if code = 23 then some .timing
  else if code = 24 then some .cause
  else if code = 25 then some .link
  else if code = 26 then some .capture
  else none

/-- How many octets an item's value has (R158 and the items' own rules). -/
def StageItem.valueLength : StageItem → Nat
  | .trunk _ => 2
  | .lane _ _ => 2
  | .pattern _ => 32
  | .candidate _ => 5
  | .rule _ => 10
  | .loopGuard _ => 3
  | .selector => 5
  | .monitor => 1
  | .synth => 5
  | .output _ => 1

/-- The item an item value is for. -/
def ItemValue.item : ItemValue → StageItem
  | .trunk t _ => .trunk t
  | .lane p i _ => .lane p i
  | .pattern p _ => .pattern p
  | .candidate c _ => .candidate c
  | .rule r _ => .rule r
  | .loopGuard k _ => .loopGuard k
  | .selector _ => .selector
  | .monitor _ => .monitor
  | .synth _ => .synth
  | .output n _ => .output n

/-! ### Values: what a STAGE body says, made valid by the item's own clamps -/

/-- R55: kind 0 with a trunk, 1 IDLE, 2 TEST. -/
def laneSourceOf (kind trunk : Octet) : Option LaneSource :=
  if kind = 0 then (below 48 trunk).map .trunk
  else if kind = 1 then some .idle
  else if kind = 2 then some .test
  else none

def laneSourceOctets : LaneSource → List Octet
  | .trunk t => [0, octet t.val]
  | .idle => [1, 0]
  | .test => [2, 0]

/-- R68: kind 0 none, 1 trunk, 2 S1, 3 S2. -/
def sourceOf (kind trunk : Octet) : Option Source :=
  if kind = 0 then some .none
  else if kind = 1 then (below 48 trunk).map .trunk
  else if kind = 2 then some (.station .s1)
  else if kind = 3 then some (.station .s2)
  else none

def sourceOctets : Source → List Octet
  | .none => [0, 0]
  | .trunk t => [1, octet t.val]
  | .station .s1 => [2, 0]
  | .station .s2 => [3, 0]

/-- R91: the nine fields. -/
def ruleFieldOf (o : Octet) : Option RuleField :=
  [RuleField.ql, .rdi, .sourceId, .freqDev, .phaseHits, .slipRate, .slipExcess, .index, .station][o.toNat]?

def ruleFieldOctet : RuleField → Octet
  | .ql => 0 | .rdi => 1 | .sourceId => 2 | .freqDev => 3 | .phaseHits => 4 | .slipRate => 5 | .slipExcess => 6
  | .index => 7 | .station => 8

def ruleOpOf (o : Octet) : Option RuleOp := [RuleOp.eq, .ne, .gt, .lt][o.toNat]?

def ruleOpOctet : RuleOp → Octet
  | .eq => 0 | .ne => 1 | .gt => 2 | .lt => 3

/-- R91: the class octet belongs to CLASS alone; for MAP it is staged as 0. -/
def ruleActionOf (action cls : Octet) : Option RuleAction :=
  if action = 0 then (below 8 cls).map .cls
  else if action = 1 then some .map
  else none

def ruleActionOctets : RuleAction → List Octet
  | .cls c => [0, octet c.val]
  | .map => [1, 0]

/-- A 32-octet value (R56). -/
def trafficOf (os : List Octet) : Traffic := Vector.ofFn fun i => os.getD i.val 0

/-- R68: a priority of 0 is staged as 1 and one above 8 as 8. -/
def candConfigOf (enabled kind trunk priority ql : Octet) : Option CandConfig :=
  match sourceOf kind trunk, below 16 ql with
  | some src, some q =>
    some { enabled := enabled != 0, source := src, priority := clampNat 1 8 priority.toNat, assumedQl := q }
  | _, _ => none

/-- R91. -/
def ruleOf (enabled join field op v1 v0 m1 m0 action cls : Octet) : Option Rule :=
  match ruleFieldOf field, ruleOpOf op, ruleActionOf action cls with
  | some f, some p, some a =>
    some { enabled := enabled != 0, join := join != 0, field := f, op := p, value := word16 v1 v0,
           mask := word16 m1 m0, action := a }
  | _, _, _ => none

/-- R103: a WTR above 1023 is staged as 1023. -/
def selectorConfigOf (quality revertive w1 w0 cls : Octet) : Option SelectorConfig :=
  (below 8 cls).map fun k =>
    { quality := quality != 0, revertive := revertive != 0, wtr := min 1023 (word16 w1 w0).toNat, defaultClass := k }

/-- R128: an F0 outside ±10,000 is staged as the nearer bound. -/
def synthConfigOf (band f1 f0 holdover freerun : Octet) : Option SynthConfig :=
  match below 4 band, below 16 holdover, below 16 freerun with
  | some b, some h, some q =>
    some { band := b, f0 := max (-10000) (min 10000 (word16 f1 f0).toInt), holdoverQl := h, freerunQl := q }
  | _, _, _ => none

/-- The value a STAGE body carries for an item, clamped; none where the item's rule refuses BAD-VALUE (R158). -/
def stagedValue (it : StageItem) (os : List Octet) : Option ItemValue :=
  match it, os with
  | .trunk t, [enabled, threshold] =>
    some (.trunk t { enabled := enabled != 0, threshold := clampNat 1 15 threshold.toNat })
  | .lane p i, [kind, trunk] => (laneSourceOf kind trunk).map (.lane p i)
  | .pattern p, os => some (.pattern p (trafficOf os))
  | .candidate c, [enabled, kind, trunk, priority, ql] =>
    (candConfigOf enabled kind trunk priority ql).map (.candidate c)
  | .rule r, [enabled, join, field, op, v1, v0, m1, m0, action, cls] =>
    (ruleOf enabled join field op v1 v0 m1 m0 action cls).map (.rule r)
  | .loopGuard k, [present, hi, lo] => some (.loopGuard k (if present = 0 then none else some (word16 hi lo)))
  | .selector, [quality, revertive, w1, w0, cls] => (selectorConfigOf quality revertive w1 w0 cls).map .selector
  | .monitor, [limit] => some (.monitor (max 1 limit.toNat))
  | .synth, [band, f1, f0, holdover, freerun] => (synthConfigOf band f1 f0 holdover freerun).map .synth
  | .output n, [threshold] => (below 16 threshold).map (.output n)
  | _, _ => none

/-- The value's octets, as a READ or a STAGE response carries them. -/
def ItemValue.octets : ItemValue → List Octet
  | .trunk _ v => [flagOctet v.enabled, octet v.threshold]
  | .lane _ _ v => laneSourceOctets v
  | .pattern _ v => v.toList
  | .candidate _ v => flagOctet v.enabled :: sourceOctets v.source ++ [octet v.priority, octet v.assumedQl.val]
  | .rule _ v =>
    [flagOctet v.enabled, flagOctet v.join, ruleFieldOctet v.field, ruleOpOctet v.op] ++ be16 v.value ++ be16 v.mask
      ++ ruleActionOctets v.action
  | .loopGuard _ none => [0, 0, 0]
  | .loopGuard _ (some id) => 1 :: be16 id
  | .selector v => [flagOctet v.quality, flagOctet v.revertive] ++ nat16 v.wtr ++ [octet v.defaultClass.val]
  | .monitor v => [octet v]
  | .synth v => octet v.band.val :: int16 v.f0 ++ [octet v.holdoverQl.val, octet v.freerunQl.val]
  | .output _ v => [octet v.val]

/-! ### The configuration as items -/

/-- The value of an item in a configuration. -/
def Settings.item (k : Settings) : StageItem → ItemValue
  | .trunk t => .trunk t k.trunks[t]
  | .lane .a i => .lane .a i k.lanesA[i]
  | .lane .b i => .lane .b i k.lanesB[i]
  | .pattern .a => .pattern .a k.patternA
  | .pattern .b => .pattern .b k.patternB
  | .candidate c => .candidate c k.cands[c]
  | .rule r => .rule r k.rules[r]
  | .loopGuard j => .loopGuard j k.loopGuard[j]
  | .selector => .selector k.selector
  | .monitor => .monitor k.freqLimit
  | .synth => .synth k.synth
  | .output n => .output n (if n = 0 then k.squelch1 else k.squelch2)

/-- A configuration with one item's value put in place. -/
def Settings.put (k : Settings) : ItemValue → Settings
  | .trunk t v => { k with trunks := k.trunks.set t v }
  | .lane .a i v => { k with lanesA := k.lanesA.set i v }
  | .lane .b i v => { k with lanesB := k.lanesB.set i v }
  | .pattern .a v => { k with patternA := v }
  | .pattern .b v => { k with patternB := v }
  | .candidate c v => { k with cands := k.cands.set c v }
  | .rule r v => { k with rules := k.rules.set r v }
  | .loopGuard j v => { k with loopGuard := k.loopGuard.set j v }
  | .selector v => { k with selector := v }
  | .monitor v => { k with freqLimit := v }
  | .synth v => { k with synth := v }
  | .output n v => if n = 0 then { k with squelch1 := v } else { k with squelch2 := v }

/-- The merged configuration: each staged value in place of the committed one (8.7). -/
def Settings.merge (k : Settings) (staged : List ItemValue) : Settings := staged.foldl Settings.put k

/-- A staging area with a value placed: at most one value per item instance (R158). -/
def placeStaged (staged : List ItemValue) (v : ItemValue) : List ItemValue :=
  staged.filter (fun w => w.item != v.item) ++ [v]

/-- The staged value of an item, if there is one. -/
def stagedFor (staged : List ItemValue) (it : StageItem) : Option ItemValue := staged.find? fun w => w.item == it

/-- Two enabled candidates name the same source, or an enabled candidate has none (R159). -/
def Settings.sourceConflict (k : Settings) : Bool :=
  (List.finRange 8).any fun c =>
    k.cands[c].enabled
      && (k.cands[c].source == .none
          || (List.finRange 8).any fun d =>
              d != c && k.cands[d].enabled && k.cands[d].source == k.cands[c].source)

/-- The validity a commit asks of the merged configuration (R159). -/
def Settings.valid (k : Settings) : Bool := !k.sourceConflict && !k.rules[15].join

end Sys2Proof.Machine
end

