-- ==== Sys2Proof/Machine/Flags.lean ====
section
/-! DEFINITION. Flag octets, state numbers and event classes. -/

namespace Sys2Proof.Machine

/-- A weight if a flag is set. -/
def weigh (b : Bool) (w : Nat) : Nat := if b then w else 0

/-- The number of a framer state (R13). -/
def FramerState.number : FramerState → Nat
  | .off => 0 | .noSignal => 1 | .hunt _ => 2 | .confirm _ _ => 3 | .aligned _ => 4

def FramerState.isAligned : FramerState → Bool
  | .aligned _ => true
  | .off | .noSignal | .hunt _ | .confirm _ _ => false

/-- The alarm set of a framer: 1 for LOS, 2 for AIS, 4 for RDI (R13). -/
def Framer.alarms (f : Framer) : Nat := weigh f.los 1 + weigh f.ais 2 + weigh f.rdi 4

/-- The number of a monitor state (4.3). -/
def MonitorState.number : MonitorState → Nat
  | .absent => 0 | .inactive => 1 | .measuring => 2 | .valid => 3 | .outOfRange => 4

/-- The active monitor states (4.3). -/
def MonitorState.isActive : MonitorState → Bool
  | .measuring | .valid | .outOfRange => true
  | .absent | .inactive => false

/-- The number of a synthesizer state (7.1). -/
def SynthState.number : SynthState → Nat
  | .freerun => 0 | .acquire => 1 | .locked => 2 | .holdover => 3

/-- The number of a store state (R46). -/
def StoreState.number : StoreState → Nat
  | .idle => 0 | .priming => 1 | .run => 2

/-- The number of a slip kind (R42, R47). -/
def SlipKind.number : SlipKind → Nat
  | .repeated => 1 | .deleted => 2 | .recenter => 3

/-- The code of an event kind (R166). -/
def EventKind.code : EventKind → Octet
  | .trunkState => 1 | .trunkAlarm => 2 | .slip => 3 | .slipExcess => 4 | .monitor => 5 | .cls => 6 | .loop => 7
  | .selection => 8 | .requestDropped => 9 | .synthState => 10 | .holdoverValid => 11 | .acquireTimeout => 12
  | .configCommitted => 13 | .countersCleared => 14 | .reset => 15

/-- The mask bit of an event kind's class (R166, R169). -/
def EventKind.classBit : EventKind → Nat
  | .trunkState | .trunkAlarm => 0
  | .slip | .slipExcess => 1
  | .monitor | .cls | .loop => 2
  | .selection | .requestDropped => 3
  | .synthState | .holdoverValid | .acquireTimeout => 4
  | .configCommitted | .countersCleared | .reset => 5

/-- The subject octet of an event (R166). -/
def Subject.octet : Subject → Octet
  | .none => 0xFF
  | .trunk t => Machine.octet t.val
  | .candidate c => Machine.octet (c.val + 1)
  | .link l => linkOctet l

/-- The 8 octets of an event record (R166). -/
def Event.octets (e : Event) : List Octet := e.kind.code :: e.subject.octet :: be32 e.epoch ++ be16 e.detail

/-- A detail of the form 256 × high + low. -/
def detailOf (high low : Nat) : Word16 := BitVec.ofNat 16 (256 * high + low)

/-- The response flags (5.3) of a link, given whether a commit from either link is pending. -/
def responseFlags (k : Link) (commitPending : Bool) : Octet :=
  octet (weigh (!k.queue.isEmpty) 1 + weigh k.overflow 2 + weigh commitPending 4 + weigh (!k.staging.isEmpty) 8)

/-- The status octet of a lane frame: REPEAT, IDLE, TRUNK-ALARM, TEST and the frame QL (5.2, R58). -/
def laneStatus (rep idle alarm test : Bool) (ql : Ql) : Octet :=
  octet (weigh rep 128 + weigh idle 64 + weigh alarm 32 + weigh test 16 + ql.val)

/-- Octet 2 of a capture body: QL, RDI and errored (R44). -/
def captureStatus (ql : Ql) (rdi errored : Bool) : Octet :=
  octet (16 * ql.val + weigh rdi 8 + weigh errored 1)

/-- The lockout set as an octet: bit c − 1 for candidate c (R126). -/
def lockoutOctet (v : Vector Bool 8) : Octet :=
  octet ((List.finRange 8).foldl (fun n c => n + weigh v[c] (2 ^ c.val)) 0)

end Sys2Proof.Machine
end

