-- ==== Sys2Proof/Machine/Ops.lean ====
section
/-! DEFINITION. The named reads and writes of the state, events, and the instants of the timing generator. -/

namespace Sys2Proof.Machine

/-! ### Writes -/

def State.setFramer (s : State) (t : Trunk) (f : Framer) : State := { s with framers := s.framers.set t f }
def State.setStore (s : State) (t : Trunk) (x : Store) : State := { s with stores := s.stores.set t x }
def State.setCand (s : State) (c : Cand) (r : Runtime) : State := { s with cands := s.cands.set c r }
def State.setSel (s : State) (x : Selector) : State := { s with sel := x }
def State.setSynth (s : State) (y : Synth) : State := { s with synth := y }
def State.setGen (s : State) (g : Generator) : State := { s with gen := g }

/-- The link a link number names. -/
def State.link (s : State) : LinkId → Link
  | .a => s.linkA
  | .b => s.linkB

def State.setLink (s : State) (l : LinkId) (k : Link) : State :=
  match l with
  | .a => { s with linkA := k }
  | .b => { s with linkB := k }

/-- Increase a counter by one, saturating at a limit (2.5). -/
def bump (limit n : Nat) : Nat := if n < limit then n + 1 else limit

/-- Append to a bounded history: when it is full the oldest entry leaves first (R38). -/
def pushBounded {α : Type} (limit : Nat) (xs : List α) (x : α) : List α :=
  if xs.length < limit then xs ++ [x] else xs.drop 1 ++ [x]

/-! ### Time -/

/-- Ticks from one counter value to another: modulo 2^32, read as an unsigned number (R50). -/
def ticksFrom (start now : Tick) : Nat := (now - start).toNat

/-- A timer that runs from a tick has run for `limit` ticks. -/
def timerOver (s : State) (start : Option Tick) (limit : Nat) : Bool :=
  match start with
  | none => false
  | some t => decide (limit ≤ ticksFrom t s.gen.tick)

/-- The tick counter has reached the current frame start tick plus the current frame length (R51). -/
def State.startDue (s : State) : Bool := s.gen.tick == s.gen.frameStart + BitVec.ofNat 32 s.gen.frameLength

/-- The multiframe start at this instant, if there is one, as the epoch it begins: the start that is due and not yet
taken by the generator, or the one just taken (R52). -/
def State.multiframeAt (s : State) : Option Epoch :=
  if s.startDue then
    if s.gen.frameNumber = 15 then some (s.gen.epoch + 1) else none
  else if s.gen.tick = s.gen.frameStart ∧ s.gen.frameNumber = 0 then some s.gen.epoch
  else none

/-- A multiframe start is due at this instant, and its class evaluation is still to evaluate candidate c, which it does
where c is enabled (R87). -/
def State.gradingToCome (s : State) (c : Cand) : Bool :=
  s.startDue && s.gen.frameNumber == 15 && s.cfg.cands[c].enabled

/-! ### Events (R166, R167) -/

/-- Whether a link's mask holds an event kind's class. -/
def Link.takes (k : Link) (kind : EventKind) : Bool := k.mask.getLsbD kind.classBit

/-- An event offered to one queue: passed by, appended, or discarded with overflow (R167). -/
def Link.offer (k : Link) (e : Event) : Link :=
  if k.takes e.kind then
    if k.queue.length < 32 then { k with queue := k.queue ++ [e] } else { k with overflow := true }
  else k

/-- Raise an event: it carries the generator's epoch and is offered to both queues at once (R166, R167). -/
def raise (kind : EventKind) (subject : Subject) (detail : Word16) (s : State) : State :=
  { s with
    linkA := s.linkA.offer { kind := kind, subject := subject, epoch := s.gen.epoch, detail := detail }
    linkB := s.linkB.offer { kind := kind, subject := subject, epoch := s.gen.epoch, detail := detail } }

/-- Work done by blocks that take a multiframe start, whose events carry the epoch that start begins, whether or not
the generator has advanced yet (R166; assumption 5). -/
def atEpoch (e : Epoch) (f : State → State) (s : State) : State :=
  let before := s.gen.epoch
  let t := f { s with gen := { s.gen with epoch := e } }
  { t with gen := { t.gen with epoch := before } }

/-- The attention line of a link (R167, R54). -/
def attention (s : State) (l : LinkId) : Bool := !s.pinHeld && !(s.link l).queue.isEmpty

/-! ### Orders (assumption 3) -/

/-- The arrangement of a list that an order number picks; every arrangement is picked by some number. -/
def arrange {α : Type} : Nat → Nat → List α → List α
  | 0, _, xs => xs
  | k + 1, n, xs =>
    match xs[n % xs.length]? with
    | none => xs
    | some x => x :: arrange k (n / xs.length) (xs.eraseIdx (n % xs.length))

/-- A list in the order a number picks. -/
def inOrder {α : Type} (n : Nat) (xs : List α) : List α := arrange xs.length n xs

/-- Act for every trunk of an order. -/
def forTrunks (ts : List Trunk) (f : Trunk → State → State) (s : State) : State := ts.foldl (fun s t => f t s) s

/-- Act for every candidate in number order. -/
def forCands (f : Cand → State → State) (s : State) : State := (List.finRange 8).foldl (fun s c => f c s) s

end Sys2Proof.Machine
end

