-- ==== Sys2Proof/Machine/Synth.lean ====
section
/-! DEFINITION. The exchange synthesizer (chapter 7). -/

namespace Sys2Proof.Machine

/-- The range of F, I and H (R129). -/
def clampF (x : Int) : Int := max (-10000) (min 10000 x)

/-- The range of E (R136). -/
def clampE (x : Int) : Int := max (-64) (min 64 x)

/-- H is valid when the history count is 64 (R142). -/
def Synth.holdoverValid (y : Synth) : Bool := y.history == 64

/-! ### The frame-length accumulator (R130) -/

/-- S = R + F, q = floor(S ÷ 65536), R becomes S − 65536 × q and the length is 3072 − q. -/
def produceLength (s : State) : State :=
  let total := (s.synth.r : Int) + s.synth.f
  { s with
    synth := { s.synth with r := (total % 65536).toNat }
    gen := { s.gen with frameLength := (3072 - total / 65536).toNat } }

/-! ### The exchange QL (R146) -/

/-- The QL of a candidate: the persisted QL of its trunk, or its assumed QL (R92, R146). -/
def candidateQl (s : State) (c : Cand) : Ql :=
  match s.cfg.cands[c].source with
  | .trunk t => s.framers[t].ql
  | .none | .station _ => s.cfg.cands[c].assumedQl

def exchangeQlOf (s : State) : Ql :=
  match s.synth.state with
  | .locked =>
    match s.sel.selection with
    | some c => candidateQl s c
    | none => s.synth.exchangeQl
  | .acquire => if s.synth.holdoverValid then s.cfg.synth.holdoverQl else s.cfg.synth.freerunQl
  | .holdover => s.cfg.synth.holdoverQl
  | .freerun => s.cfg.synth.freerunQl

def recomputeQl (s : State) : State := s.setSynth { s.synth with exchangeQl := exchangeQlOf s }

/-! ### Changes of state -/

/-- The subject of a SYNTH event: the selection, or none (R147). -/
def selectionSubject (s : State) : Subject :=
  match s.sel.selection with
  | some c => .candidate c
  | none => .none

/-- Enter a state: SYNTH-STATE is raised at a change, and the exchange QL is recomputed (R146, R147). -/
def enterSynth (new : SynthState) (s : State) : State :=
  let old := s.synth.state
  let t := s.setSynth { s.synth with state := new }
  recomputeQl
    (if old = new then t else raise .synthState (selectionSubject t) (detailOf old.number new.number) t)

/-- The counters that a change of selection sets to 0 (R132, R133). -/
def Synth.clearCounters (y : Synth) : Synth :=
  { y with lockCount := 0, lossCount := 0, acquireTimer := 0, timeoutCount := 0 }

/-- The selection has become a candidate, from none or another (R132). -/
def acquireSelection (s : State) : State :=
  let y := s.synth
  let i := match y.state with
    | .holdover => y.h
    | .freerun => s.cfg.synth.f0
    | .acquire | .locked => y.i
  enterSynth .acquire (s.setSynth { y.clearCounters with i := i, buildOut := true })

/-- The state, F and I of a synthesizer without a selection: HOLDOVER on H, or FREERUN on F0 (R133, R150). -/
def Synth.release (y : Synth) (f0 : Int) : Synth :=
  let x := if y.holdoverValid then y.h else f0
  { y.clearCounters with f := x, i := x, buildOut := false }

/-- The selection has become none, from a candidate (R133). In HOLDOVER and FREERUN this is no change. -/
def loseSelection (s : State) : State :=
  match s.synth.state with
  | .holdover | .freerun => s
  | .acquire | .locked =>
    enterSynth (if s.synth.holdoverValid then .holdover else .freerun)
      (s.setSynth (s.synth.release s.cfg.synth.f0))

/-- The synthesizer takes a new selection (R108). -/
def followSelection (s : State) : State :=
  match s.sel.selection with
  | some _ => acquireSelection s
  | none => loseSelection s

/-! ### The phase sample (R134 to R142) -/

/-- The raw phase: multiframe start tick minus latest marker tick, modulo 2^32, then modulo 3072 (R134). -/
def rawPhase (start marker : Tick) : Nat := ticksFrom marker start % 3072

/-- The phase error: raw − O wrapped once into −1536 … +1535 (R136). -/
def phaseError (raw o : Nat) : Int :=
  let x : Int := (raw : Int) - (o : Int)
  if x < -1536 then x + 3072 else if 1535 < x then x - 3072 else x

/-- The shifts of a band: ki = band and kp = band + 6 (R137). -/
def bandKi (band : Fin 4) : Nat := band.val
def bandKp (band : Fin 4) : Nat := band.val + 6

/-- The loop update (R137). -/
def Synth.loopUpdate (y : Synth) (band : Fin 4) (e : Int) : Synth :=
  let i := clampF (y.i + e * 2 ^ bandKi band)
  { y with i := i, f := clampF (i + e * 2 ^ bandKp band) }

/-- The sample's d, E, O and loop update (R135, R136, R137), recorded as the last sample. -/
def Synth.measure (y : Synth) (band : Fin 4) (raw : Nat) : Synth :=
  if y.buildOut then
    { y.loopUpdate band 0 with o := raw, buildOut := false, last := some { raw := raw, d := 0, e := 0 } }
  else
    let d := phaseError raw y.o
    { y.loopUpdate band (clampE d) with last := some { raw := raw, d := d, e := clampE d } }

/-- The d of the sample just measured. -/
def Synth.lastD (y : Synth) : Int :=
  match y.last with
  | some x => x.d
  | none => 0

/-- The synthesizer's own half of an acquire timeout: count, ACQUIRE-TIMEOUT, hand-over to the selector, timer 0
(R140, R147). -/
def timeOut (c : Cand) (s : State) : State :=
  let n := bump 65535 s.synth.timeoutCount
  let t := raise .acquireTimeout (.candidate c) (BitVec.ofNat 16 n) s
  { t with
    synth := { t.synth with timeoutCount := n, acquireTimer := 0 }
    sel := { t.sel with timeouts := t.sel.timeouts ++ [c] } }

/-- A sample taken in ACQUIRE, after its loop update (R138, R140). -/
def countAcquire (c : Cand) (s : State) : State :=
  let y := s.synth
  let lock := if y.lastD.natAbs ≤ 4 then bump 8 y.lockCount else 0
  let t := s.setSynth { y with acquireTimer := bump Config.acquireSamples y.acquireTimer, lockCount := lock }
  if lock = 8 then
    let u := enterSynth .locked (t.setSynth { t.synth with lossCount := 0 })
    u.setCand c { u.cands[c] with lockFail := false }
  else if Config.acquireSamples ≤ t.synth.acquireTimer then timeOut c t
  else t

/-- H moves towards I by floor((I − H) ÷ 16) and the history count increases (R141). -/
def Synth.keepHistory (y : Synth) : Synth := { y with h := y.h + (y.i - y.h) / 16, history := bump 64 y.history }

/-- A sample that stays LOCKED enters the history; HOLDOVER-VALID when the count reaches 64 (R141, R142). -/
def recordHistory (c : Cand) (s : State) : State :=
  let y := s.synth.keepHistory
  let t := s.setSynth y
  if s.synth.history < 64 ∧ y.history = 64 then
    raise .holdoverValid (.candidate c) (BitVec.ofInt 16 y.h) t
  else t

/-- A sample taken in LOCKED, after its loop update (R139, R141). -/
def countLocked (c : Cand) (s : State) : State :=
  let y := s.synth
  let loss := if 32 < y.lastD.natAbs then bump 2 y.lossCount else 0
  if loss = 2 then
    enterSynth .acquire
      (s.setSynth { y with lossCount := loss, acquireTimer := 0, lockCount := 0, timeoutCount := 0 })
  else recordHistory c (s.setSynth { y with lossCount := loss })

/-- The phase sample at a multiframe start (R134). -/
def phaseSample (s : State) : State :=
  match s.sel.selection with
  | none => s
  | some c =>
    match s.cands[c].latest with
    | none => s
    | some marker =>
      let t := s.setSynth (s.synth.measure s.cfg.synth.band (rawPhase s.gen.frameStart marker))
      match s.synth.state with
      | .acquire => countAcquire c t
      | .locked => countLocked c t
      | .freerun | .holdover => s

end Sys2Proof.Machine
end

