-- ==== Sys2Proof/Machine/Selection.lean ====
section
/-! DEFINITION. The reference selector: eligibility, the evaluation and its events, waits (chapter 6). -/

namespace Sys2Proof.Machine

/-! ### Eligibility and the automatic order (6.2) -/

/-- R104. -/
def eligible (s : State) (c : Cand) : Bool :=
  s.cfg.cands[c].enabled && s.cands[c].cls != 0 && !s.sel.lockout[c] && s.cands[c].wait == none

/-- A candidate's place in the order: class (in quality mode), priority, number (R105). -/
def rankKey (s : State) (c : Cand) : Nat × Nat × Nat :=
  (if s.cfg.selector.quality then s.cands[c].cls.val else 0, s.cfg.cands[c].priority, c.val)

/-- Earlier in the order (R105). -/
def better (s : State) (c d : Cand) : Bool :=
  let x := rankKey s c
  let y := rankKey s d
  decide (x.1 < y.1 ∨ (x.1 = y.1 ∧ (x.2.1 < y.2.1 ∨ (x.2.1 = y.2.1 ∧ x.2.2 < y.2.2))))

/-- The first eligible candidate in the order, or none (R105). -/
def firstEligible (s : State) : Option Cand :=
  (List.finRange 8).foldl
    (fun best c =>
      if eligible s c then
        match best with
        | none => some c
        | some b => if better s c b then some c else some b
      else best)
    none

/-- The automatic choice from the current selection (R105). -/
def automaticChoice (s : State) : Option Cand :=
  if s.cfg.selector.revertive then firstEligible s
  else
    match s.sel.selection with
    | some c => if eligible s c then some c else firstEligible s
    | none => firstEligible s

/-! ### Requests dropped (R125) -/

inductive DropCause where
  | lockout | disabled | notEligible
deriving DecidableEq, Repr

def DropCause.number : DropCause → Nat
  | .lockout => 1 | .disabled => 2 | .notEligible => 3

/-- Drop the FORCED request on c with its return record. -/
def dropForced (c : Cand) (cause : DropCause) (s : State) : State :=
  raise .requestDropped (.candidate c) (detailOf 1 cause.number) (s.setSel { s.sel with forced := none })

/-- Drop the MANUAL request on c with its return record. -/
def dropManual (c : Cand) (cause : DropCause) (s : State) : State :=
  raise .requestDropped (.candidate c) (detailOf 2 cause.number) (s.setSel { s.sel with manual := none })

/-- The FORCED request stands and its target meets a test. -/
def forcedOn (s : State) (p : Cand → Bool) : Option Cand :=
  match s.sel.forced with
  | some f =>
    match f.target with
    | some c => if p c then some c else none
    | none => none
  | none => none

/-- The MANUAL request stands and its target meets a test. -/
def manualOn (s : State) (p : Cand → Bool) : Option Cand :=
  match s.sel.manual with
  | some m => if p m.target then some m.target else none
  | none => none

/-- Drop the FORCED request if its target meets a test. -/
def dropForcedIf (p : Cand → Bool) (cause : DropCause) (s : State) : State :=
  match forcedOn s p with
  | some c => dropForced c cause s
  | none => s

/-- Drop the MANUAL request if its target meets a test. -/
def dropManualIf (p : Cand → Bool) (cause : DropCause) (s : State) : State :=
  match manualOn s p with
  | some c => dropManual c cause s
  | none => s

/-! ### The evaluation (6.3) -/

/-- What an evaluation is taken for (R107). -/
inductive EvalCause where
  | classes
  | activityLoss
  | request (l : LinkId)
  | release (l : LinkId)
  | commit (l : LinkId)
  | timeout
deriving DecidableEq, Repr

/-- A forced target is selected while its monitor is active (R106). -/
def forcedChoice (s : State) (f : Forced) : Option Cand :=
  match f.target with
  | some c => if s.cands[c].state.isActive then some c else none
  | none => none

/-- The new selection from the highest level that stands; `ret` is the return candidate of a release with RETURN
(R106, R117, R118). -/
def chooseSelection (ret : Option Cand) (s : State) : Option Cand :=
  match s.sel.forced with
  | some f => forcedChoice s f
  | none =>
    match s.sel.manual with
    | some m => some m.target
    | none =>
      match ret with
      | some c => if eligible s c then some c else automaticChoice s
      | none => automaticChoice s

/-- The old selection remains allowed by the level that stands: the case BETTER of R109. -/
def stillAllowed (s : State) (c : Cand) : Bool :=
  match s.sel.forced with
  | some f => forcedChoice s f == some c
  | none => eligible s c

/-- The reason of a SELECTION event (R109), from whether a manual request was dropped at the first step. -/
def selectionReason (why : EvalCause) (dropped : Bool) (old : Option Cand) (s : State) : Nat :=
  match why with
  | .activityLoss => 2
  | .request _ => 3
  | .release _ => 4
  | .commit _ => 5
  | .timeout => 7
  | .classes =>
    match old with
    | none => 8
    | some c => if dropped then 6 else if stillAllowed s c then 1 else 2

/-- The subject of a SELECTION event (R109). -/
def EvalCause.subject : EvalCause → Subject
  | .request l | .release l | .commit l => .link l
  | .classes | .activityLoss | .timeout => .none

/-- A selection as a number: none is 0 (2.2). -/
def selectionNumber : Option Cand → Nat
  | none => 0
  | some c => c.val + 1

/-- Make a selection: a change is handed to the synthesizer with one SELECTION event before it (R106, R108, R109). -/
def select (reason : Nat) (subject : Subject) (new : Option Cand) (s : State) : State :=
  let old := s.sel.selection
  if new = old then s
  else
    followSelection
      (raise .selection subject (BitVec.ofNat 16 (256 * reason + 16 * selectionNumber old + selectionNumber new))
        (s.setSel { s.sel with selection := new }))

/-- An evaluation (R106). -/
def evaluate (why : EvalCause) (ret : Option Cand) (s : State) : State :=
  let t := dropManualIf (fun c => !eligible s c) .notEligible s
  let dropped := s.sel.manual.isSome && t.sel.manual.isNone
  select (selectionReason why dropped t.sel.selection t) why.subject (chooseSelection ret t) t

/-! ### Waits (6.5) -/

/-- A wait that begins now (R120). -/
def newWait (s : State) : Wait :=
  if s.cfg.selector.wtr = 0 then .indefinite
  else .definite (s.cfg.selector.wtr * Config.multiframesPerSecond) s.gen.epoch

/-- A definite wait that began or was last counted at an earlier multiframe start than the one that begins epoch e is
counted down by one, and ends where it reaches 0 (R121). -/
def Wait.counted (e : Epoch) : Wait → Option Wait
  | .definite n last => if last = e then some (.definite n last) else if n ≤ 1 then none else some (.definite (n - 1) e)
  | .indefinite => some .indefinite

def countWait (e : Epoch) (c : Cand) (s : State) : State :=
  s.setCand c { s.cands[c] with wait := s.cands[c].wait.bind (Wait.counted e) }

/-- The count-down of all waits at the multiframe start that begins epoch e, taken whole (R121; assumption 16). -/
def countWaitsAt (e : Epoch) (s : State) : State := forCands (countWait e) s

/-- The count-down inside a frame start, after the generator has advanced. -/
def countWaits (s : State) : State := countWaitsAt s.gen.epoch s

/-- The definite wait of c reaches 0 at the multiframe start at this instant, and has not been counted there (R121). -/
def waitEndDue (s : State) (c : Cand) : Bool :=
  match s.multiframeAt, s.cands[c].wait with
  | some e, some (.definite n last) => decide (n ≤ 1) && last != e
  | _, _ => false

/-- WAIT_END: where the wait of c is to end at this multiframe start, the count-down is taken, of every wait (R121;
assumption 16). -/
def endWait (c : Cand) (s : State) : State :=
  if waitEndDue s c then countWaitsAt (s.multiframeAt.getD s.gen.epoch) s else s

/-! ### Acquire timeouts (6.6) -/

/-- The selector takes an acquire timeout on c (R123). -/
def takeTimeout (c : Cand) (s : State) : State :=
  let t := s.setCand c { s.cands[c] with lockFail := true }
  if (forcedOn t (· == c)).isSome then t
  else
    let u :=
      if t.cands[c].cls != 0 && t.cands[c].wait == none then
        t.setCand c { t.cands[c] with wait := some (newWait t) }
      else t
    evaluate .timeout none u

/-- The selector takes the oldest timeout handed over to it, if there is one (R123). -/
def takeHandedTimeout (s : State) : State :=
  match s.sel.timeouts with
  | [] => s
  | c :: cs => takeTimeout c (s.setSel { s.sel with timeouts := cs })

/-- The synthesizer's half of a timeout, where a sample has brought the acquire timer to 1024 and it stands there. -/
def timeOutIfReached (s : State) : State :=
  match s.synth.state, s.sel.selection with
  | .acquire, some c => if Config.acquireSamples ≤ s.synth.acquireTimer then timeOut c s else s
  | _, _ => s

/-- An acquire timeout taken whole: the synthesizer's half, then the selector's (R140, R123; assumption 15). -/
def acquireTimeoutStep (s : State) : State := takeHandedTimeout (timeOutIfReached s)

end Sys2Proof.Machine
end

