-- ==== Sys2Proof/Machine/Qualification.lean ====
section
/-! DEFINITION. The qualification unit: loop guard, rule list, classes (chapter 5). -/

namespace Sys2Proof.Machine

/-! ### Fields (R92) -/

/-- |D| saturated at 65535, and the last window hits (R82). -/
def freqDev (r : Runtime) : Option Nat := r.deviation.map fun d => min 65535 d.natAbs

/-- The value of a field for candidate c; none where it is absent (R92). -/
def fieldValue (s : State) (c : Cand) (x : RuleField) : Option Nat :=
  match x with
  | .ql => some (candidateQl s c).val
  | .freqDev => freqDev s.cands[c]
  | .phaseHits => s.cands[c].lastHits
  | .index => some (c.val + 1)
  | .station =>
    match s.cfg.cands[c].source with
    | .station _ => some 1
    | .none | .trunk _ => some 0
  | .rdi | .sourceId | .slipRate | .slipExcess =>
    match s.cfg.cands[c].source with
    | .none | .station _ => none
    | .trunk t =>
      match x with
      | .rdi => some (weigh s.framers[t].rdi 1)
      | .sourceId => s.framers[t].sourceId.map BitVec.toNat
      | .slipRate => s.stores[t].slipRate
      | .slipExcess => some (weigh s.stores[t].slipExcess 1)
      | .ql | .freqDev | .phaseHits | .index | .station => none

/-! ### Rules and chains (R93 to R96) -/

/-- A rule's comparison of a present field (R93). -/
def Rule.compare (r : Rule) (v : Word16) : Bool :=
  match r.op with
  | .eq => v &&& r.mask == r.value &&& r.mask
  | .ne => v &&& r.mask != r.value &&& r.mask
  | .gt => decide (r.value < v)
  | .lt => decide (v < r.value)

/-- Whether a rule matches the candidate; an absent field matches no rule (R93). -/
def Rule.isMatch (r : Rule) (s : State) (c : Cand) : Bool :=
  match fieldValue s c r.field with
  | none => false
  | some v => r.compare (BitVec.ofNat 16 v)

/-- The chains of a rule list, divided by the join fields (R94). -/
def chains : List Rule → List (List Rule)
  | [] => []
  | r :: rs =>
    if r.join then
      match chains rs with
      | [] => [[r]]
      | x :: xs => (r :: x) :: xs
    else [r] :: chains rs

/-- A chain matches: its first rule is enabled and matches, and every further rule matches or is disabled (R94, R95). -/
def chainMatches (s : State) (c : Cand) : List Rule → Bool
  | [] => false
  | r :: rs => r.enabled && r.isMatch s c && rs.all fun x => !x.enabled || x.isMatch s c

/-- The class a masked value gives under MAP (R96). -/
def mapClass (v : Word16) : Fin 8 := Fin.ofNat 8 (min 7 v.toNat)

/-- The class the first rule of the deciding chain gives (R96). -/
def Rule.classOf (r : Rule) (s : State) (c : Cand) : Fin 8 :=
  match r.action with
  | .cls k => k
  | .map => mapClass (BitVec.ofNat 16 ((fieldValue s c r.field).getD 0) &&& r.mask)

/-- The class the rule list gives, or the default class (R95). -/
def ruleClass (s : State) (c : Cand) : Fin 8 :=
  match (chains s.cfg.rules.toList).find? (chainMatches s c) with
  | some (r :: _) => r.classOf s c
  | some [] | none => s.cfg.selector.defaultClass

/-! ### The loop guard (R90) -/

/-- The identifier that puts candidate c in loop: its SOURCE-ID if an entry of the loop guard holds it (R90). -/
def loopMatch (s : State) (c : Cand) : Option Word16 :=
  match s.cfg.cands[c].source with
  | .trunk t =>
    match s.framers[t].sourceId with
    | some v => if s.cfg.loopGuard.toList.contains (some v) then some v else none
    | none => none
  | .none | .station _ => none

/-! ### Changes of class (R97 to R99) -/

/-- What the selector does with a class change (R98). -/
def Runtime.classChanged (r : Runtime) (old new : Fin 8) (w : Wait) : Runtime :=
  if old = 0 then
    if new = 0 then r
    else if r.hasQualified then { r with wait := some w } else { r with hasQualified := true }
  else if new = 0 then { r with wait := none }
  else r

/-- Give candidate c a class: a change raises CLASS and is handed to the selector (R97, R98). -/
def setClass (c : Cand) (new : Fin 8) (s : State) : State :=
  let old := s.cands[c].cls
  if new = old then s
  else
    raise .cls (.candidate c) (detailOf old.val new.val)
      (s.setCand c ({ s.cands[c] with cls := new }.classChanged old new (newWait s)))

/-- Set or clear the LOOP flag. -/
def setLoop (c : Cand) (v : Bool) (s : State) : State := s.setCand c { s.cands[c] with loop := v }

/-- The CLASS event of an activity loss that left it to the class evaluation of its instant is raised now (R99, R101). -/
def tellLoss (c : Cand) (s : State) : State :=
  match s.cands[c].lostCls with
  | none => s
  | some old => raise .cls (.candidate c) (detailOf old.val 0) (s.setCand c { s.cands[c] with lostCls := none })

/-- The three steps of a grading: monitor gate, loop guard, rule list (R87, R88, R90, R95). -/
def grade (c : Cand) (s : State) : State :=
  if s.cands[c].state != .valid then setClass c 0 (setLoop c false s)
  else
    match loopMatch s c with
    | some v =>
      let t := setLoop c true s
      setClass c 0 (if s.cands[c].loop then t else raise .loop (.candidate c) v t)
    | none => setClass c (ruleClass s c) (setLoop c false s)

/-- The evaluation of one candidate; a disabled one is not evaluated (R87). -/
def gradeCandidate (c : Cand) (s : State) : State :=
  if s.cfg.cands[c].enabled then grade c (tellLoss c s) else s

/-- The class evaluation of a multiframe start and the selector's evaluation at its completion (R87, R107). -/
def classEvaluation (s : State) : State := evaluate .classes none (forCands gradeCandidate s)

/-- The class goes to 0 at once and the change is handed to the selector. The CLASS event follows at once (R99), but where
the class evaluation of this instant is still to evaluate the candidate, that evaluation raises it (R101). R99 and R101
differ on this event alone; that the loss leaves it to the evaluation only there is the model's reading (assumption 26). -/
def loseClass (c : Cand) (s : State) : State :=
  let r := s.cands[c]
  if r.cls ≠ 0 ∧ s.gradingToCome c = true then s.setCand c { r with cls := 0, lostCls := some r.cls, wait := none }
  else setClass c 0 s

/-- Activity loss of candidate c: class 0 at once, LOOP clear, and an evaluation if it was selected (R99, R107). -/
def loseActivity (c : Cand) (s : State) : State :=
  let t := loseClass c (setLoop c false s)
  if s.sel.selection = some c then evaluate .activityLoss none t else t

end Sys2Proof.Machine
end

