-- ==== Sys2Proof/Machine/Monitor.lean ====
section
/-! DEFINITION. The reference monitors: markers, windows, activity (chapter 4). -/

namespace Sys2Proof.Machine

/-- MONITOR with the states before and after (R84). -/
def raiseMonitor (c : Cand) (old new : MonitorState) (s : State) : State :=
  raise .monitor (.candidate c) (detailOf old.number new.number) s

/-! ### Activity loss (R76 to R78) -/

/-- The monitor's own fields at activity loss (R78). -/
def Runtime.abandonWindow (r : Runtime) : Runtime :=
  { r with state := .inactive, latest := none, interval := none, windowStart := none, intervals := 0, hits := 0,
           activityFrom := none }

/-- An active monitor goes to INACTIVE and tells qualification; any other monitor stays (R77, R78). -/
def goInactive (c : Cand) (s : State) : State :=
  let r := s.cands[c]
  if r.state.isActive then
    loseActivity c (raiseMonitor c r.state .inactive (s.setCand c r.abandonWindow))
  else s

/-- A framer leaving ALIGNED tells the monitors of its trunk (R17 step 2, R77), in number order where there are several
(assumption 28). -/
def tellMonitors (t : Trunk) (s : State) : State :=
  forCands (fun c s => if s.cfg.cands[c].source = .trunk t then goInactive c s else s) s

/-- The activity timer of c has run 9216 ticks (R76). -/
def activityDue (s : State) (c : Cand) : Bool := timerOver s s.cands[c].activityFrom Config.activityTicks

/-- Activity expiry (R76). -/
def expireActivity (c : Cand) (s : State) : State := if activityDue s c then goInactive c s else s

/-! ### Markers (R69, R73, R74) -/

/-- The first marker of an activity (R73). -/
def Runtime.firstMarker (r : Runtime) (stamp now : Tick) : Runtime :=
  { r with state := .measuring, latest := some stamp, windowStart := some stamp, interval := none, intervals := 0,
           hits := 0, activityFrom := some now }

/-- Whether an interval is a phase hit against the one before (R74 step 3). -/
def isHit (before : Option Nat) (interval : Nat) : Bool :=
  match before with
  | none => false
  | some p => decide (p + 16 < interval ∨ interval + 16 < p)

/-- A marker taken by an active monitor, up to the window end of step 6 (R74). -/
def Runtime.marker (r : Runtime) (stamp now : Tick) : Runtime :=
  let interval := match r.latest with
    | some before => ticksFrom before stamp
    | none => 0
  let n := r.intervals + 1
  { r with
    intervals := n
    hits := if 2 ≤ n ∧ isHit r.interval interval then r.hits + 1 else r.hits
    interval := some interval
    latest := some stamp
    activityFrom := some now }

/-- A marker with a stamp reaches the monitor of candidate c (R72 to R74). -/
def takeMarker (c : Cand) (stamp : Tick) (s : State) : State :=
  let r := s.cands[c]
  match r.state with
  | .absent => s
  | .inactive => raiseMonitor c .inactive .measuring (s.setCand c (r.firstMarker stamp s.gen.tick))
  | .measuring | .valid | .outOfRange => s.setCand c (r.marker stamp s.gen.tick)

/-- A source raises a marker: it reaches the monitor of each enabled candidate whose source names it (R69). -/
def raiseMarker (src : Source) (stamp : Tick) (s : State) : State :=
  forCands
    (fun c s =>
      if s.cfg.cands[c].enabled && s.cfg.cands[c].source == src then takeMarker c stamp s else s)
    s

/-! ### The frequency window (R75) -/

/-- A window of c is at its 512th interval. -/
def windowEndDue (s : State) (c : Cand) : Bool :=
  s.cands[c].state.isActive && decide (Config.windowIntervals ≤ s.cands[c].intervals)

/-- The deviation of a window from its start to its last marker (R75). -/
def Runtime.windowDeviation (r : Runtime) : Int :=
  match r.windowStart, r.latest with
  | some a, some b => (ticksFrom a b : Int) - Config.windowTicks
  | _, _ => 0

/-- The verdict of a window (R75). -/
def verdict (limit : Nat) (d : Int) (hits : Nat) : MonitorState :=
  if d.natAbs ≤ limit ∧ hits < 4 then .valid else .outOfRange

/-- A window end: D, verdict, and the next window begun at the same marker (R75). -/
def endWindow (c : Cand) (s : State) : State :=
  if windowEndDue s c then
    let r := s.cands[c]
    let d := r.windowDeviation
    let new := verdict s.cfg.freqLimit d r.hits
    let t := s.setCand c
      { r with state := new, deviation := some d, lastHits := some r.hits, windowStart := r.latest, intervals := 0,
               hits := 0 }
    if new = r.state then t else raiseMonitor c r.state new t
  else s

/-! ### Resets (R80, R86) -/

/-- The runtime record of a candidate that starts again as if new (R72, R80, R86). -/
def Runtime.restarted (enabled : Bool) : Runtime :=
  { Runtime.reset with state := if enabled then .inactive else .absent }

/-- The runtime record and MONITOR of a candidate reset at an apply. The reset raises no CLASS event of its own (R80); one
that an activity loss has left to the class evaluation of this instant stays with it (R101; assumption 26). -/
def restartCandidate (enabled : Bool) (c : Cand) (s : State) : State :=
  let before := s.cands[c]
  let r := { Runtime.restarted enabled with lostCls := before.lostCls }
  raiseMonitor c before.state r.state (s.setCand c r)

/-- An apply that changed the enable or the source of candidate c (R80). A candidate that it disables has no class
evaluation to come, so the CLASS event that an activity loss has left to it is raised first (R99; assumption 26). -/
def resetCandidate (old new : CandConfig) (c : Cand) (s : State) : State :=
  if old.enabled = new.enabled ∧ (old.source = new.source ∨ new.enabled = false) then s
  else restartCandidate new.enabled c (if new.enabled then s else tellLoss c s)

/-! ### Station inputs (R71) -/

def State.station (s : State) : Station → StationLevel
  | .s1 => s.s1
  | .s2 => s.s2

def State.setStation (s : State) (i : Station) (x : StationLevel) : State :=
  match i with
  | .s1 => { s with s1 := x }
  | .s2 => { s with s2 := x }

/-- A rising edge needs a low level at the tick before, so an input edges at most once in two ticks (R71). -/
def stationEdge (i : Station) (s : State) : State :=
  let x := s.station i
  if x.high || x.wasHigh then s
  else raiseMarker (.station i) s.gen.tick (s.setStation i { x with high := true })

/-- A tick passes at a station input: this tick's level becomes the level of the tick before (R71; assumption 10). -/
def StationLevel.tick (x : StationLevel) : StationLevel := { high := false, wasHigh := x.high }

end Sys2Proof.Machine
end

