-- ==== Sys2Proof/Machine/Stores.lean ====
section
/-! DEFINITION. The elastic stores: arrivals, reads, slips, windows, capture (chapter 2). -/

namespace Sys2Proof.Machine

/-! ### Slip accounting (R25, R29, R36 to R42) -/

/-- The record of a slip or recenter in the exchange frame in progress (R38). -/
def slipRecord (s : State) (kind : SlipKind) (held : Nat) : SlipRecord :=
  { kind := kind, epoch := s.gen.epoch, frame := s.gen.frameNumber, held := held }

/-- The counter of a slip (R36). -/
def Store.countSlip (x : Store) : SlipKind → Store
  | .repeated => { x with repeats := bump 65535 x.repeats }
  | .deleted => { x with deletes := bump 65535 x.deletes }
  | .recenter => x

/-- SLIP-EXCESS is set by this slip: it was clear and the count is at or above the threshold (R39). -/
def Store.setsExcess (x : Store) (threshold : Nat) : Bool :=
  !x.slipExcess && decide (threshold ≤ bump 255 x.windowCount)

/-- Counter, history, window count and SLIP-EXCESS of a slip (R25, R29, R39). -/
def Store.slipped (x : Store) (note : SlipRecord) (threshold : Nat) : Store :=
  { x.countSlip note.kind with
    history := pushBounded 4 x.history note
    windowCount := bump 255 x.windowCount
    slipExcess := x.slipExcess || x.setsExcess threshold }

/-- SLIP-EXCESS set (detail 1) or cleared (detail 0) (R42). -/
def raiseExcess (t : Trunk) (v : Bool) (s : State) : State :=
  raise .slipExcess (.trunk t) (detailOf 0 (weigh v 1)) s

/-- A repeat or delete slip of store t: accounting, SLIP, then SLIP-EXCESS if it was set (R25, R29, R42). -/
def slip (t : Trunk) (kind : SlipKind) (held : Nat) (s : State) : State :=
  let x := s.stores[t]
  let threshold := s.cfg.trunks[t].threshold
  let u := raise .slip (.trunk t) (detailOf kind.number held)
    (s.setStore t (x.slipped (slipRecord s kind held) threshold))
  if x.setsExcess threshold then raiseExcess t true u else u

/-! ### States (R21, R22) and arrivals (R23 to R25) -/

/-- A framer entering ALIGNED puts its store in PRIMING (R21). -/
def Store.prime (x : Store) : Store := { x with state := .priming, queue := [], inProgress := [], last := none }

/-- The flush of a framer leaving ALIGNED (R22). -/
def Store.flush (x : Store) : Store := { x with state := .idle, queue := [], inProgress := [], last := none }

/-- A completed frame record arrives (R23, R24, R25). -/
def storeArrival (t : Trunk) (r : FrameRecord) (s : State) : State :=
  let x := s.stores[t]
  match x.state with
  | .idle => s
  | .priming => s.setStore t { x with queue := pushBounded 4 x.queue r }
  | .run =>
    let u := s.setStore t { x with queue := pushBounded 4 x.queue r }
    if x.queue.length < 4 then u else slip t .deleted x.queue.length u

/-! ### Reads (R26 to R29, R33, R34) -/

/-- The delivered frame of a read, from the store as it stands (R26 to R29). -/
def Store.delivers (x : Store) : Delivered :=
  match x.state, x.queue with
  | .idle, _ => .idle
  | .priming, r :: _ :: _ => .fresh r
  | .priming, _ => .idle
  | .run, r :: _ => .fresh r
  | .run, [] =>
    match x.last with
    | some r => .repeated r
    | none => .idle

/-- The transit delay of a fresh frame at a read tick (R33). -/
def transitDelay (r : FrameRecord) (now : Tick) : Nat := min 65535 (ticksFrom r.stamp now)

/-- A wander window with a new delay (R34). -/
def widen (w : Option (Nat × Nat)) (d : Nat) : Option (Nat × Nat) :=
  match w with
  | none => some (d, d)
  | some (lo, hi) => some (min lo d, max hi d)

/-- A fresh delivery: the record leaves the queue and becomes the last delivered frame, its delay is measured
(R27, R28, R33, R34). -/
def Store.deliverFresh (x : Store) (r : FrameRecord) (now : Tick) : Store :=
  let d := transitDelay r now
  { x with state := .run, queue := x.queue.drop 1, last := some r, transit := some d, wanderA := widen x.wanderA d,
           wanderB := widen x.wanderB d }

/-- The capture record a read makes of its delivered frame (R44). -/
def captureOf (d : Delivered) (now : Tick) : CaptureRecord :=
  { delivered := d
    transit := match d with
      | .fresh r => some (transitDelay r now)
      | .repeated _ | .idle => none }

/-- A read hands its delivered frame to the capture a link has pending on store t (R26, R44). -/
def Link.handCapture (k : Link) (t : Trunk) (copy : CaptureRecord) : Link :=
  match k.outstanding with
  | some o =>
    match o.work with
    | .capture u none => if u = t then { k with outstanding := some { o with work := .capture u (some copy) } } else k
    | .capture _ (some _) | .commit => k
  | none => k

/-- A store's read at an exchange frame start: delivery and slip, then the hand-over to the lanes of both planes and to
the pending captures (R26). -/
def readStore (t : Trunk) (s : State) : State :=
  let x := s.stores[t]
  let d := x.delivers
  let u := match d with
    | .fresh r => s.setStore t (x.deliverFresh r s.gen.tick)
    | .repeated _ => slip t .repeated 0 s
    | .idle => s
  let copy := captureOf d s.gen.tick
  let given : Handover := { delivered := d, alarm := s.framers[t].los || s.framers[t].ais }
  { u with
    out := { u.out with handed := u.out.handed.set t given }
    linkA := u.linkA.handCapture t copy
    linkB := u.linkB.handCapture t copy }

/-! ### Recentering (R32) -/

/-- An accepted RECENTER: history record, then the frames but the one in progress are discarded (R32). -/
def Store.recenter (x : Store) (note : SlipRecord) : Store :=
  { x with state := .priming, queue := [], last := none, history := pushBounded 4 x.history note }

/-! ### Slip windows (R40, R41) -/

/-- The epoch at which the slip window of store t ends at this instant, if it does and has not been ended yet (R40). -/
def slipWindowDue (s : State) (t : Trunk) : Option Epoch :=
  match s.multiframeAt with
  | some e => if e.toNat % 4096 = 0 ∧ s.stores[t].windowFrom ≠ e then some e else none
  | none => none

/-- The window end of a store whose trunk is enabled (R40); the next one is complete for it so far (R41). -/
def Store.endWindow (x : Store) (threshold : Nat) : Store :=
  { x with
    slipRate := if x.windowComplete then some x.windowCount else x.slipRate
    slipExcess := x.slipExcess && decide (threshold ≤ x.windowCount)
    windowCount := 0
    windowComplete := true }

/-- A window of store t ends and the next begins at epoch e; a store of a disabled trunk only moves on (R40, R41). -/
def endStoreWindow (t : Trunk) (e : Epoch) (s : State) : State :=
  let x := s.stores[t]
  if s.cfg.trunks[t].enabled then
    let y := x.endWindow s.cfg.trunks[t].threshold
    let u := s.setStore t { y with windowFrom := e }
    if x.slipExcess && !y.slipExcess then raiseExcess t false u else u
  else s.setStore t { x with windowComplete := false, windowFrom := e }

/-- SLIP_WINDOW_END of store t, if its window end is due (R40; assumption 2). -/
def endSlipWindow (t : Trunk) (s : State) : State :=
  match slipWindowDue s t with
  | none => s
  | some e => atEpoch e (endStoreWindow t e) s

/-! ### Disable, and the links' windows (R48, R34, R35) -/

/-- What a trunk disable clears in its store (R48). -/
def Store.disabled (x : Store) : Store :=
  { x with history := [], windowCount := 0, slipRate := none, transit := none, wanderA := none, wanderB := none,
           slipExcess := false, windowComplete := false }

def Store.wander (x : Store) : LinkId → Option (Nat × Nat)
  | .a => x.wanderA
  | .b => x.wanderB

/-- A link's wander window emptied (R34, R35). -/
def Store.clearWander (x : Store) : LinkId → Store
  | .a => { x with wanderA := none }
  | .b => { x with wanderB := none }

end Sys2Proof.Machine
end

