-- ==== Sys2Proof/Machine/Framers.lean ====
section
/-! DEFINITION. The trunk receivers and framers (chapter 1). -/

namespace Sys2Proof.Machine

/-- The alignment word (5.1). -/
def alignWord : Octet := 0xB4

/-- The overhead octet of a frame number (5.1). -/
def numberOctet (n : Fin 16) : Octet := octet (0xA0 + n.val)

/-! ### Events (R13) -/

/-- TRUNK-STATE with the old and new state. -/
def raiseTrunkState (t : Trunk) (old new : FramerState) (s : State) : State :=
  raise .trunkState (.trunk t) (detailOf old.number new.number) s

/-- TRUNK-ALARM, if the alarm set differs from what it was. -/
def raiseAlarmFrom (t : Trunk) (before : Nat) (s : State) : State :=
  let now := s.framers[t].alarms
  if now = before then s else raise .trunkAlarm (.trunk t) (BitVec.ofNat 16 now) s

/-! ### The search (R5, R6) -/

/-- The octets retained from position p + 1 on agree with a candidate position at p of frame number f, as far as its
two checks lie among them (R6). -/
def checksHold (f : Fin 16) (retained : List Octet) : Bool :=
  (retained[35]?).all (· == alignWord) && (retained[36]?).all (· == numberOctet (f + 1))
    && (retained[71]?).all (· == alignWord) && (retained[72]?).all (· == numberOctet (f + 2))

/-- The hunt over retained octets after a failed check: the first position whose own checks among them hold, or none
(R6). -/
def rescan : List Octet → FramerState
  | [] => .hunt false
  | x :: xs =>
    if x = alignWord then
      match xs with
      | [] => .hunt true
      | y :: _ =>
        if highNibble y = 10 ∧ checksHold (lowNibble y) xs then .confirm (lowNibble y) xs else rescan xs
    else rescan xs

/-- An octet examined in HUNT (R5). -/
def huntOctet (afterB4 : Bool) (o : Octet) : FramerState :=
  if afterB4 ∧ highNibble o = 10 then .confirm (lowNibble o) [o] else .hunt (o == alignWord)

/-! ### Effects of every arrival (R1, R3, R12) -/

/-- The loss-of-signal timer restarts, LOS clears, the all-ones run advances or ends. -/
def Framer.arrive (f : Framer) (now : Tick) (o : Octet) : Framer :=
  let n := if o = 0xFF then bump 72 f.aisRun else 0
  { f with losFrom := some now, los := false, aisRun := n, ais := decide (o = 0xFF) && (f.ais || n == 72) }

/-! ### Leaving alignment (R17) -/

/-- What leaving ALIGNED clears in the framer (R17 step 3). -/
def Framer.clearAligned (f : Framer) (new : FramerState) : Framer :=
  { f with state := new, ql := 0, qlRun := 0, rdi := false, sourceId := none, keptHigh := none, prevId := none }

/-- Leaving ALIGNED for a new state: store, monitors, own state, TRUNK-STATE; and TRUNK-ALARM against the alarm set
`before`, which a disable leaves to its own rule (R17, R2). -/
def leaveAligned (t : Trunk) (new : FramerState) (before : Option Nat) (s : State) : State :=
  let old := s.framers[t].state
  let s1 := tellMonitors t (s.setStore t s.stores[t].flush)
  let s2 := raiseTrunkState t old new (s1.setFramer t (s1.framers[t].clearAligned new))
  match before with
  | some a => raiseAlarmFrom t a s2
  | none => s2

/-! ### Persisted overhead (R12, R15, R16) -/

/-- The persisted QL at a frame completion (R15). -/
def Framer.persistQl (f : Framer) (errored : Bool) (q : Ql) : Framer :=
  if errored then { f with qlRun := 0 }
  else
    let n := if q = f.qlLast then bump 3 f.qlRun else 1
    { f with qlLast := q, qlRun := n, ql := if n = 3 then q else f.ql }

/-- The source identifier once a value v is assembled (R16, the table). -/
def Framer.assembled (f : Framer) (v : Word16) : Framer :=
  { f with
    sourceId := match f.sourceId with
      | some w => if w = v then some w else none
      | none => if f.prevId = some v then some v else none
    prevId := some v }

/-- The source-identifier assembly at the completion of a frame (R16). -/
def Framer.assemble (f : Framer) (number : Fin 16) (errored : Bool) (o3 : Octet) : Framer :=
  if number = 0 then { f with keptHigh := if errored then none else some o3 }
  else if number = 1 then
    let g := { f with keptHigh := none }
    match errored, f.keptHigh with
    | false, some hi => g.assembled (word16 hi o3)
    | _, _ => { g with prevId := none }
  else f

/-- Bit 3 of a status octet (5.1). -/
def rdiBit (status : Octet) : Bool := status.getLsbD 3

/-! ### ALIGNED (R7 to R11) -/

/-- The record of a completed frame from its 36 octets (R9). -/
def frameRecord (octets : List Octet) (number : Fin 16) (errored : Bool) (stamp : Tick) : FrameRecord :=
  { traffic := trafficOf (octets.drop 4), ql := highNibble (octets.getD 2 0), rdi := rdiBit (octets.getD 2 0),
    number := number, errored := errored, stamp := stamp }

/-- The RDI flag after the completion of the current frame, loss of alignment included (R12, R11, R17). -/
def Alignment.rdiAfter (a : Alignment) (rdi : Bool) (status : Octet) : Bool :=
  if a.errored then (if 2 ≤ a.erroredRun then false else rdi) else rdiBit status

/-- The consecutive-errored count once the current frame is complete (R8, R11; assumption 23). -/
def Alignment.completed (a : Alignment) : Alignment :=
  { a with erroredRun := if a.errored then a.erroredRun + 1 else 0 }

/-- The framer's own updates at a frame completion: the two error counts, QL, RDI, source identifier (R8, R9, R14). -/
def Framer.completed (f : Framer) (a : Alignment) (octets : List Octet) : Framer :=
  let g := f.persistQl a.errored (highNibble (octets.getD 2 0))
  let h := g.assemble a.expected a.errored (octets.getD 3 0)
  { h with
    state := .aligned a.completed
    alignErrors := if a.errored then bump 65535 f.alignErrors else f.alignErrors
    rdi := if a.errored then f.rdi else rdiBit (octets.getD 2 0) }

/-- The completion of a frame: hand-over, own updates, then the check for loss of alignment (R9, R11). -/
def completeFrame (t : Trunk) (a : Alignment) (octets : List Octet) (before : Nat) (s : State) : State :=
  let r := frameRecord octets a.expected a.errored s.framers[t].frameStamp
  let s1 := storeArrival t r (s.setStore t { s.stores[t] with inProgress := [] })
  let s2 := recomputeQl (s1.setFramer t (s1.framers[t].completed a octets))
  if 3 ≤ a.completed.erroredRun then leaveAligned t (.hunt false) (some before) s2
  else raiseAlarmFrom t before s2

/-- The errored decision at position 1; the frame is counted at its completion (R8, R14; assumption 23). -/
def Alignment.decide (a : Alignment) (first second : Octet) : Alignment :=
  { a with errored := first != alignWord || second != numberOctet a.expected }

/-- An octet joins the frame in progress (R20). -/
def joinFrame (t : Trunk) (o : Octet) (s : State) : State :=
  s.setStore t { s.stores[t] with inProgress := s.stores[t].inProgress ++ [o] }

/-- An octet in ALIGNED, by its position in the frame (R8, R9, R10, R20). -/
def alignedOctet (t : Trunk) (a : Alignment) (o : Octet) (before : Nat) (s : State) : State :=
  let f := s.framers[t]
  let got := s.stores[t].inProgress
  match got with
  | [] =>
    joinFrame t o
      (s.setFramer t { f with state := .aligned { a with expected := a.expected + 1 }, frameStamp := s.gen.tick })
  | [first] =>
    raiseMarker (.trunk t) f.frameStamp (joinFrame t o (s.setFramer t { f with state := .aligned (a.decide first o) }))
  | _ :: _ :: _ => if got.length < 35 then joinFrame t o s else completeFrame t a (got ++ [o]) before s

/-- Entry to ALIGNED at position p + 73 (R7): the store, its first two octets, the marker. -/
def enterAligned (t : Trunk) (f : Fin 16) (o : Octet) (s : State) : State :=
  let old := s.framers[t].state
  let new := FramerState.aligned { expected := f + 2, errored := false, erroredRun := 0 }
  let s1 := raiseTrunkState t old new (s.setFramer t { s.framers[t] with state := new })
  let s2 := s1.setStore t { s1.stores[t].prime with inProgress := [alignWord, o] }
  raiseMarker (.trunk t) s2.framers[t].frameStamp s2

/-- An octet in CONFIRM (R6, R7). The stamp of the octet at p + 72 is kept as the frame's arrival stamp. -/
def confirmOctet (t : Trunk) (f : Fin 16) (retained : List Octet) (o : Octet) (s : State) : State :=
  let got := retained ++ [o]
  if checksHold f got then
    if got.length < 73 then
      s.setFramer t
        { s.framers[t] with state := .confirm f got,
                            frameStamp := if got.length = 72 then s.gen.tick else s.framers[t].frameStamp }
    else enterAligned t f o s
  else s.setFramer t { s.framers[t] with state := rescan got }

/-! ### An octet arrival (R1) -/

/-- The state's own handling of an octet (R1, the table). -/
def handleOctet (t : Trunk) (o : Octet) (before : Nat) (s : State) : State :=
  let f := s.framers[t]
  match f.state with
  | .off => s
  | .noSignal =>
    let new := FramerState.hunt (o == alignWord)
    raiseTrunkState t f.state new (s.setFramer t { f with state := new })
  | .hunt afterB4 => s.setFramer t { f with state := huntOctet afterB4 o }
  | .confirm n retained => confirmOctet t n retained o s
  | .aligned a => alignedOctet t a o before s

/-- The octet completes a frame whose completion moves the RDI flag: its one TRUNK-ALARM waits for that (R13). -/
def rdiMoves (s : State) (t : Trunk) : Bool :=
  match s.framers[t].state with
  | .aligned a =>
    let got := s.stores[t].inProgress
    decide (35 ≤ got.length) && a.rdiAfter s.framers[t].rdi (got.getD 2 0) != s.framers[t].rdi
  | .off | .noSignal | .hunt _ | .confirm _ _ => false

/-- The arrival of an octet on trunk t (R1). -/
def octetArrival (t : Trunk) (o : Octet) (s : State) : State :=
  let f := s.framers[t]
  if f.state = .off then s
  else
    let s1 := s.setFramer t (f.arrive s.gen.tick o)
    if rdiMoves s t then handleOctet t o f.alarms s1
    else handleOctet t o s1.framers[t].alarms (raiseAlarmFrom t f.alarms s1)

/-! ### Loss of signal (R3) -/

def losDue (s : State) (t : Trunk) : Bool := timerOver s s.framers[t].losFrom Config.losTicks

/-- The expiry of the loss-of-signal timer (R3). -/
def expireSignal (t : Trunk) (s : State) : State :=
  if losDue s t then
    let f := s.framers[t]
    let s1 := s.setFramer t { f with los := true, ais := false, aisRun := 0, losFrom := none }
    match f.state with
    | .off => s
    | .noSignal => raiseAlarmFrom t f.alarms s1
    | .hunt _ | .confirm _ _ =>
      raiseAlarmFrom t f.alarms
        (raiseTrunkState t f.state .noSignal (s1.setFramer t { s1.framers[t] with state := .noSignal }))
    | .aligned _ => leaveAligned t .noSignal (some f.alarms) s1
  else s

/-! ### Enable, disable, restart (R2, R48, R18) -/

/-- A trunk becomes enabled at an apply (R2, R41). -/
def enableTrunk (t : Trunk) (windowBegan : Bool) (s : State) : State :=
  let f := s.framers[t]
  let s1 := s.setFramer t
    { Framer.reset with state := .noSignal, losFrom := some s.gen.tick, alignErrors := f.alignErrors }
  raiseTrunkState t f.state .noSignal
    (s1.setStore t { s1.stores[t] with windowComplete := windowBegan })

/-- A trunk becomes disabled at an apply: framer, then store (R2, R48). -/
def disableTrunk (t : Trunk) (s : State) : State :=
  let f := s.framers[t]
  let s1 :=
    if f.state.isAligned then leaveAligned t .off none s
    else raiseTrunkState t f.state .off s
  let s2 := s1.setFramer t { Framer.reset with alignErrors := s1.framers[t].alignErrors }
  let s3 := raiseAlarmFrom t f.alarms s2
  let x := s3.stores[t]
  let s4 := s3.setStore t x.disabled
  if x.slipExcess then raiseExcess t false s4 else s4

/-- RESTART of an enabled trunk (R18). -/
def restartTrunk (t : Trunk) (s : State) : State :=
  let f := s.framers[t]
  match f.state with
  | .off | .noSignal => s
  | .hunt _ | .confirm _ _ => s.setFramer t { f with state := .hunt false }
  | .aligned _ => leaveAligned t (.hunt false) (some f.alarms) s

/-- A framer and its loss-of-signal timer after a warm reset (R19). -/
def Framer.warm (enabled : Bool) (now : Tick) : Framer :=
  if enabled then { Framer.reset with state := .noSignal, losFrom := some now } else Framer.reset

end Sys2Proof.Machine
end

