-- ==== Sys2Proof/Machine/Timing.lean ====
section
/-! DEFINITION. The timing generator, lane frames, highways and timing outputs (chapter 3). -/

namespace Sys2Proof.Machine

/-! ### Lane frames (R57, R58) -/

/-- The traffic of a delivered frame (2.1). -/
def Delivered.traffic : Delivered → Traffic
  | .fresh r | .repeated r => r.traffic
  | .idle => idleTraffic

/-- The RDI of a delivered frame; 0 for the idle frame (2.1). -/
def Delivered.rdi : Delivered → Bool
  | .fresh r | .repeated r => r.rdi
  | .idle => false

def Delivered.isRepeated : Delivered → Bool
  | .repeated _ => true
  | .fresh _ | .idle => false

def Delivered.isIdle : Delivered → Bool
  | .idle => true
  | .fresh _ | .repeated _ => false

/-- A lane frame from its map entry, its plane's pattern and what was handed over (R57, R58). -/
def laneFrame (src : LaneSource) (pattern : Traffic) (handed : Vector Handover 48) (number : Fin 16) (ql : Ql) :
    LaneFrame :=
  match src with
  | .trunk t =>
    let d := handed[t].delivered
    { number := numberOctet number
      status := laneStatus d.isRepeated d.isIdle (d.rdi || handed[t].alarm) false ql
      source := octet t.val
      traffic := d.traffic }
  | .idle =>
    { number := numberOctet number, status := laneStatus false true false false ql, source := 0xFF,
      traffic := idleTraffic }
  | .test =>
    { number := numberOctet number, status := laneStatus false false false true ql, source := 0xFE,
      traffic := pattern }

/-- The octets 0 to 35 of a lane frame (5.2). -/
def LaneFrame.octets (x : LaneFrame) : List Octet := alignWord :: x.number :: x.status :: x.source :: x.traffic.toList

/-- The lane map and the test pattern of a plane. -/
def Settings.lanes (k : Settings) : Plane → Vector LaneSource 48
  | .a => k.lanesA
  | .b => k.lanesB

def Settings.pattern (k : Settings) : Plane → Traffic
  | .a => k.patternA
  | .b => k.patternB

/-- The 48 lane frames a plane port fixes from the committed values and what was handed over (R57). -/
def planeLanes (s : State) (p : Plane) : Vector LaneFrame 48 :=
  Vector.ofFn fun i =>
    laneFrame (s.cfg.lanes p)[i] (s.cfg.pattern p) s.out.handed s.gen.frameNumber s.gen.frameQl

/-- A plane port fixes its lane frames. -/
def fixLanes (p : Plane) (s : State) : State :=
  match p with
  | .a => { s with out := { s.out with lanesA := planeLanes s .a } }
  | .b => { s with out := { s.out with lanesB := planeLanes s .b } }

/-- The squelch decision of a timing output (R65). -/
def squelch (ql threshold : Ql) : Bool := decide (ql = 0 ∨ threshold < ql)

def decideSquelch (s : State) : State :=
  { s with out := { s.out with squelched1 := squelch s.gen.frameQl s.cfg.squelch1
                               squelched2 := squelch s.gen.frameQl s.cfg.squelch2 } }

/-! ### The exchange frame start (R51, R52, S95) -/

/-- The generator's own step: start tick, frame number, and the epoch at a multiframe start (R51, R52). -/
def advanceGenerator (s : State) : State :=
  let n := s.gen.frameNumber + 1
  { s with
    gen := { s.gen with frameStart := s.gen.tick, frameNumber := n,
                        epoch := if n = 0 then s.gen.epoch + 1 else s.gen.epoch } }

/-- The generator takes the exchange QL as the frame QL (R53). -/
def takeFrameQl (s : State) : State := s.setGen { s.gen with frameQl := s.synth.exchangeQl }

/-- What the blocks do at a frame start whose order the spec leaves open. -/
inductive FrameUnit where
  /-- the frame length is produced and taken (R51, R130) -/
  | length
  /-- the frame QL is taken (R53) -/
  | frameQl
  /-- the class evaluation and the selector's evaluation at its completion (R87) -/
  | classes
  /-- definite waits are counted down, and end (R121) -/
  | waits
  /-- the selector takes an acquire timeout of the sample (R123) -/
  | timeout
  /-- the phase sample (R134) -/
  | sample
  /-- the read of one store (R26) -/
  | read (t : Trunk)
deriving DecidableEq, Repr

def FrameUnit.take : FrameUnit → State → State
  | .length => produceLength
  | .frameQl => takeFrameQl
  | .classes => classEvaluation
  | .waits => countWaits
  | .timeout => takeHandedTimeout
  | .sample => phaseSample
  | .read t => readStore t

/-- The units of a frame start: the reads, the length and the frame QL, and at a multiframe start the rest (R52). -/
def frameUnits (multiframe : Bool) : List FrameUnit :=
  (if multiframe then [.length, .frameQl, .classes, .waits, .timeout, .sample] else [.length, .frameQl])
    ++ (List.finRange 48).map .read

/-- The length is produced before the sample (R130): where an order has them the other way round, they change places. -/
def lengthBeforeSample (us : List FrameUnit) : List FrameUnit :=
  if us.idxOf .sample < us.idxOf .length then
    us.map fun u => if u = .sample then .length else if u = .length then .sample else u
  else us

/-- The order in which a frame start's units are taken (assumption 3). -/
def unitOrder (ord : Nat) (multiframe : Bool) : List FrameUnit :=
  let us := inOrder ord (frameUnits multiframe)
  if multiframe then lengthBeforeSample us else us

/-- An exchange frame start that is due: the generator, every block's work in an order, then the lanes and outputs of
the new frame from what was handed over (R51, R57, R65). -/
def startFrame (ord : Nat) (s : State) : State :=
  let s1 := advanceGenerator s
  let s2 := (unitOrder ord (s1.gen.frameNumber == 0)).foldl (fun s u => u.take s) s1
  decideSquelch (fixLanes .b (fixLanes .a s2))

/-- EXCHANGE_FRAME_START: nothing before its tick (R51; assumption 2). -/
def frameStartStep (ord : Nat) (s : State) : State := if s.startDue then startFrame ord s else s

/-! ### Highways, markers and timing outputs (R61, R62, R64) -/

/-- Ticks since the start of the exchange frame in progress. -/
def frameOffset (s : State) : Nat := ticksFrom s.gen.frameStart s.gen.tick

/-- The bit period of a tick offset: periods of 1, 1 and 2 ticks in turn, the last stretched to the frame's end (R61). -/
def bitPeriod (offset : Nat) : Nat := min 2303 (3 * (offset / 4) + min 2 (offset % 4))

/-- A bit period begins at a tick offset (R61). -/
def bitPeriodBegins (offset : Nat) : Bool := offset == 0 || bitPeriod offset != bitPeriod (offset - 1)

/-- The highway clock of a plane: high in the first tick of each bit period, and low during a pin reset (R61, R54, R63;
the form of the mark is assumption 18). The two planes' clocks are alike. -/
def highwayClock (s : State) : Bool := !s.pinHeld && bitPeriodBegins (frameOffset s)

/-- The lane that slot j of highway h carries an octet of (R61). -/
def slotLane (h : Fin 6) (j : Nat) : Lane := Fin.ofNat 48 (8 * h.val + j % 8)

def State.lanes (s : State) : Plane → Vector LaneFrame 48
  | .a => s.out.lanesA
  | .b => s.out.lanesB

/-- The octet of slot j, 0 to 287, on highway h of a plane (R61). -/
def highwaySlot (s : State) (p : Plane) (h : Fin 6) (j : Nat) : Octet :=
  (s.lanes p)[slotLane h j].octets.getD (j / 8) 0

/-- The level of highway h at this tick: each octet most significant bit first, low during a pin reset (R61, R54). -/
def highwayLevel (s : State) (p : Plane) (h : Fin 6) : Bool :=
  let b := bitPeriod (frameOffset s)
  !s.pinHeld && (highwaySlot s p h (b / 8)).getLsbD (7 - b % 8)

/-- A plane's frame marker: high during slot 0, never squelched (R62). The two planes' markers are alike. -/
def frameMarker (s : State) : Bool := !s.pinHeld && decide (bitPeriod (frameOffset s) < 8)

/-- A plane's multiframe marker (R62). -/
def multiframeMarker (s : State) : Bool := frameMarker s && s.gen.frameNumber == 0

/-- The level of a timing output: a marker of 256 ticks, or low when squelched (R64). -/
def timingOutput (s : State) (squelched : Bool) : Bool :=
  !s.pinHeld && !squelched && decide (frameOffset s < Config.tmoMarkerTicks)

end Sys2Proof.Machine
end

