-- ==== Sys2Proof/Machine/Status.lean ====
section
/-! DEFINITION. The status records that a READ returns. -/

namespace Sys2Proof.Machine

/-- A presence octet. -/
def present {α : Type} (x : Option α) : Octet := flagOctet x.isSome

/-- TRUNK-STATUS[t] (R19). -/
def trunkStatus (s : State) (t : Trunk) : List Octet :=
  let f := s.framers[t]
  let (expected, run) := match f.state with
    | .aligned a => (octet a.expected.val, octet a.erroredRun)
    | .off | .noSignal | .hunt _ | .confirm _ _ => (0xFF, 0)
  [flagOctet s.cfg.trunks[t].enabled, octet f.state.number, flagOctet f.los, flagOctet f.ais, flagOctet f.rdi,
    octet f.ql.val, present f.sourceId] ++ be16 (f.sourceId.getD 0) ++ [expected, run] ++ nat16 f.alignErrors

/-- STORE-STATUS[t] (R46). -/
def storeStatus (s : State) (t : Trunk) : List Octet :=
  let x := s.stores[t]
  [octet x.state.number, octet x.queue.length, octet x.inProgress.length, present x.last, present x.transit]
    ++ nat16 (x.transit.getD 0) ++ nat16 x.repeats ++ nat16 x.deletes
    ++ [octet x.windowCount, flagOctet x.slipExcess, present x.slipRate, octet (x.slipRate.getD 0)]

/-- One record of SLIP-HISTORY (R47). -/
def SlipRecord.octets (r : SlipRecord) : List Octet :=
  octet r.kind.number :: be32 r.epoch ++ [octet r.frame.val, octet r.held]

/-- SLIP-HISTORY[t] (R47). -/
def historyStatus (s : State) (t : Trunk) : List Octet :=
  let h := s.stores[t].history
  octet h.length :: h.flatMap SlipRecord.octets

/-- WANDER[t] of a link (R35). -/
def wanderStatus (s : State) (t : Trunk) (l : LinkId) : List Octet :=
  let w := s.stores[t].wander l
  present w :: nat16 (w.map Prod.fst |>.getD 0) ++ nat16 (w.map Prod.snd |>.getD 0)

/-- The kind and the remaining count of a wait (R85). -/
def waitOctets : Option Wait → List Octet
  | none => 0 :: be32 0
  | some (.definite n _) => 1 :: be32 (BitVec.ofNat 32 n)
  | some .indefinite => 2 :: be32 0

/-- CANDIDATE-STATUS[c] (R85). -/
def candidateStatus (s : State) (c : Cand) : List Octet :=
  let k := s.cfg.cands[c]
  let r := s.cands[c]
  flagOctet k.enabled :: sourceOctets k.source ++ [octet r.state.number] ++ nat16 r.intervals ++ nat16 r.hits
    ++ [present r.latest] ++ be32 (r.latest.getD 0)
    ++ [present r.deviation] ++ be32 (BitVec.ofInt 32 (r.deviation.getD 0)) ++ nat16 (r.lastHits.getD 0)
    ++ [octet r.cls.val, flagOctet r.loop] ++ waitOctets r.wait ++ [flagOctet r.hasQualified, flagOctet r.lockFail]

/-- SELECTOR-STATUS (R126). -/
def selectorStatus (s : State) : List Octet :=
  let forced := match s.sel.forced with
    | some f => [1, candidateOctet f.target, linkOctet f.link] ++ be32 f.epoch ++ [candidateOctet f.ret]
    | none => List.replicate 8 0
  let manual := match s.sel.manual with
    | some m => [1, candidateOctet (some m.target), linkOctet m.link] ++ be32 m.epoch ++ [candidateOctet m.ret]
    | none => List.replicate 8 0
  candidateOctet s.sel.selection :: forced ++ manual
    ++ [flagOctet (s.sel.manual.isSome && s.sel.forced.isSome), lockoutOctet s.sel.lockout]

/-- SYNTH-STATUS (R148). -/
def synthStatus (s : State) : List Octet :=
  let y := s.synth
  let (raw, d, e) := match y.last with
    | some x => (x.raw, x.d, x.e)
    | none => (0, 0, 0)
  [octet y.state.number, candidateOctet s.sel.selection] ++ int16 y.f ++ int16 y.i ++ int16 y.h
    ++ [octet y.history, flagOctet y.holdoverValid] ++ nat16 y.o ++ [flagOctet y.buildOut] ++ nat16 y.r
    ++ [octet y.lockCount, octet y.lossCount] ++ nat16 y.acquireTimer ++ nat16 y.timeoutCount
    ++ [present y.last] ++ nat16 raw ++ int16 d ++ [BitVec.ofInt 8 e, octet y.exchangeQl.val]

/-- TIMING-STATUS (R67). -/
def timingStatus (s : State) : List Octet :=
  be32 s.gen.tick ++ be32 s.gen.frameStart ++ nat16 s.gen.frameLength ++ [octet s.gen.frameNumber.val]
    ++ be32 s.gen.epoch
    ++ [octet s.gen.frameQl.val, flagOctet s.out.squelched1, flagOctet s.out.squelched2]

/-- The other link. -/
def otherLink : LinkId → LinkId
  | .a => .b
  | .b => .a

/-- A commit from a link is pending. -/
def commitFrom (s : State) (l : LinkId) : Bool :=
  match s.commit with
  | some p => p.link == l
  | none => false

/-- LINK-STATUS of a link (R165). -/
def linkStatus (s : State) (l : LinkId) : List Octet :=
  let k := s.link l
  linkOctet l :: nat16 k.staging.length
    ++ [octet k.queue.length, flagOctet k.overflow, k.mask, flagOctet (commitFrom s (otherLink l)), present k.capture]

/-- The 38-octet capture body (R44). An idle frame has no errored decision, and R44 gives no sent value for that bit: 0 is
the model's choice (assumption 25). -/
def CaptureRecord.octets (c : CaptureRecord) : List Octet :=
  let head := match c.delivered with
    | .idle => [0, 0xFF, 0]
    | .fresh r => [1, octet r.number.val, captureStatus r.ql r.rdi r.errored]
    | .repeated r => [2, octet r.number.val, captureStatus r.ql r.rdi r.errored]
  head ++ [present c.transit] ++ nat16 (c.transit.getD 0) ++ c.delivered.traffic.toList

/-- CAPTURE-RECORD of a link (R44). -/
def captureRecordStatus (s : State) (l : LinkId) : List Octet :=
  match (s.link l).capture with
  | some c => 1 :: c.octets
  | none => [0]

/-- The body of a READ of a read-only item (R157). -/
def statusBody (s : State) (l : LinkId) : StatusItem → List Octet
  | .trunk t => trunkStatus s t
  | .store t => storeStatus s t
  | .history t => historyStatus s t
  | .wander t => wanderStatus s t l
  | .candidate c => candidateStatus s c
  | .selector => selectorStatus s
  | .synth => synthStatus s
  | .timing => timingStatus s
  | .cause => [s.cause]
  | .link => linkStatus s l
  | .capture => captureRecordStatus s l

/-- The identification record (R170). -/
def identification : List Octet := [0x00, 0xB7, 0x72, 0x48, 0x01]

end Sys2Proof.Machine
end

