-- ==== Sys2Proof/Machine/Switch.lean ====
section
/-! DEFINITION. The SWITCH actions of the selector (6.4): each answers a status and the state after it. -/

namespace Sys2Proof.Machine

/-- A refused request changes nothing (R111). -/
def refuse (why : Status) (s : State) : Status × State := (why, s)

/-- LOCKOUT c (R112). -/
def lockoutAction (l : LinkId) (c : Cand) (s : State) : Status × State :=
  let s1 := s.setSel { s.sel with lockout := s.sel.lockout.set c true }
  let s2 := dropManualIf (· == c) .lockout (dropForcedIf (· == c) .lockout s1)
  (.ok, evaluate (.request l) none s2)

/-- UNLOCK c (R113). -/
def unlockAction (l : LinkId) (c : Cand) (s : State) : Status × State :=
  if s.sel.lockout[c] then
    (.ok, evaluate (.request l) none (s.setSel { s.sel with lockout := s.sel.lockout.set c false }))
  else refuse .notStanding s

/-- The forced record of a FORCE: the return record is kept where a forced request stands already (R114). -/
def forcedRecord (l : LinkId) (target : Option Cand) (s : State) : Forced :=
  { target := target, link := l, epoch := s.gen.epoch,
    ret := match s.sel.forced with
      | some f => f.ret
      | none => s.sel.selection }

/-- Place a forced request and evaluate (R114). -/
def placeForced (l : LinkId) (target : Option Cand) (s : State) : State :=
  evaluate (.request l) none (s.setSel { s.sel with forced := some (forcedRecord l target s) })

/-- FORCE c (R114). -/
def forceAction (l : LinkId) (c : Cand) (s : State) : Status × State :=
  if !s.cfg.cands[c].enabled then refuse .notEnabled s
  else if s.sel.lockout[c] then refuse .lockedOut s
  else (.ok, placeForced l (some c) s)

/-- FORCE HOLDOVER (R114). -/
def forceHoldoverAction (l : LinkId) (s : State) : Status × State := (.ok, placeForced l none s)

/-- The manual record of a MANUAL: the return record is kept where a manual request stands already (R115). -/
def manualRecord (l : LinkId) (c : Cand) (s : State) : Manual :=
  { target := c, link := l, epoch := s.gen.epoch,
    ret := match s.sel.manual with
      | some m => m.ret
      | none => s.sel.selection }

/-- MANUAL c (R115). -/
def manualAction (l : LinkId) (c : Cand) (s : State) : Status × State :=
  if s.sel.forced.isSome then refuse .outranked s
  else if s.sel.lockout[c] then refuse .lockedOut s
  else if !eligible s c then refuse .notEligible s
  else (.ok, evaluate (.request l) none (s.setSel { s.sel with manual := some (manualRecord l c s) }))

/-- RELEASE FORCED, with or without RETURN (R117). -/
def releaseForcedAction (l : LinkId) (back : Bool) (s : State) : Status × State :=
  match s.sel.forced with
  | none => refuse .notStanding s
  | some f =>
    (.ok, evaluate (.release l) (if back then f.ret else none) (s.setSel { s.sel with forced := none }))

/-- RELEASE MANUAL, with or without RETURN (R118). -/
def releaseManualAction (l : LinkId) (back : Bool) (s : State) : Status × State :=
  match s.sel.manual with
  | none => refuse .notStanding s
  | some m =>
    (.ok, evaluate (.release l) (if back then m.ret else none) (s.setSel { s.sel with manual := none }))

/-- CLEAR-WAIT c (R122). -/
def clearWaitAction (l : LinkId) (c : Cand) (s : State) : Status × State :=
  if s.cands[c].wait.isSome then
    (.ok, evaluate (.request l) none (s.setCand c { s.cands[c] with wait := none }))
  else refuse .notStanding s

/-- A candidate operand outside 1 to 8 is refused BAD-VALUE (R111). -/
def onCandidate (operand : Octet) (f : Cand → State → Status × State) (s : State) : Status × State :=
  match candidateOf operand with
  | some c => f c s
  | none => refuse .badValue s

/-- A SWITCH body of three octets (R111). -/
def switchAction (l : LinkId) (action operand option : Octet) (s : State) : Status × State :=
  match action.toNat with
  | 1 => onCandidate operand (lockoutAction l) s
  | 2 => onCandidate operand (unlockAction l) s
  | 3 => onCandidate operand (forceAction l) s
  | 4 => forceHoldoverAction l s
  | 5 => onCandidate operand (manualAction l) s
  | 6 =>
    if operand = 1 then releaseForcedAction l (option != 0) s
    else if operand = 2 then releaseManualAction l (option != 0) s
    else refuse .badValue s
  | 7 => onCandidate operand (clearWaitAction l) s
  | _ => refuse .badValue s

end Sys2Proof.Machine
end

