-- ==== Sys2Proof/Machine/Links.lean ====
section
/-! DEFINITION. The maintenance links: responses, the taking of a request, each kind's handling, resets (chapters 8, 9). -/

namespace Sys2Proof.Machine

/-! ### Responses (R153, R154) -/

/-- A response as it is made: generation and flags as they stand (R153). -/
def makeResponse (s : State) (l : LinkId) (kind tag : Octet) (status : Status) (body : List Octet) : Response :=
  { kind := kind ||| 0x80, tag := tag, status := status, generation := s.generation,
    flags := responseFlags (s.link l) s.commit.isSome, body := body }

/-- A response made starts at once, or joins the waiting responses (R154). -/
def Link.send (k : Link) (r : Response) : Link :=
  match k.sending with
  | none => { k with sending := some r }
  | some _ => { k with waiting := k.waiting ++ [r] }

/-- Answer a request: its response is made and the link goes to SERVING (R151). -/
def answer (l : LinkId) (q : Request) (status : Status) (body : List Octet) (s : State) : State :=
  s.setLink l { (s.link l).send (makeResponse s l q.kind q.tag status body) with state := .serving }

/-- A BUSY or the refusal of a RESET in SERVING or WAITING: made only if no response waits, and the link stands as it
was (R151, R154). -/
def answerAside (l : LinkId) (q : Request) (status : Status) (s : State) : State :=
  if (s.link l).waiting.isEmpty then
    s.setLink l ((s.link l).send (makeResponse s l q.kind q.tag status []))
  else s

/-- The completion response of a link's outstanding request (R151, R154). -/
def complete (l : LinkId) (o : Outstanding) (body : List Octet) (s : State) : State :=
  let r := makeResponse s l o.kind o.tag .ok body
  s.setLink l { (s.link l).send r with state := .serving, outstanding := none }

/-- An accepted COMMIT or CAPTURE waits for its completion (R151). -/
def await (l : LinkId) (q : Request) (w : Work) (s : State) : State :=
  s.setLink l { s.link l with state := .waiting, outstanding := some { kind := q.kind, tag := q.tag, work := w } }

/-- The sending of a response ends: the next waiting one starts, or a link in SERVING goes to READY (R151, R154). -/
def Link.sent (k : Link) : Link :=
  match k.sending with
  | none => k
  | some _ =>
    match k.waiting with
    | r :: rs => { k with sending := some r, waiting := rs }
    | [] => { k with sending := none, state := if k.state = .serving then .ready else k.state }

/-! ### Capture completion (R44) -/

/-- The capture a read has handed over to a link, with its outstanding request. -/
def handedCapture (k : Link) : Option (Outstanding × CaptureRecord) :=
  match k.outstanding with
  | some o =>
    match o.work with
    | .capture _ (some r) => some (o, r)
    | .capture _ none | .commit => none
  | none => none

/-- The capture record takes the delivered frame, and the response is made (R44). -/
def completeCapture (l : LinkId) (s : State) : State :=
  match handedCapture (s.link l) with
  | none => s
  | some (o, r) => complete l o r.octets (s.setLink l { s.link l with capture := some r })

/-! ### Steps that follow at once from a step already taken (assumption 4) -/

/-- The window ends (R74 step 6) and capture completions (R44) that the steps already taken have brought about. -/
def runOn (s : State) : State := completeCapture .b (completeCapture .a (forCands endWindow s))

/-- A running part takes a command after whatever still follows from the one before; a part held by the reset pin takes
nothing (9.4). -/
def taken (f : State → State) (s : State) : Result := if s.pinHeld then .next s else .next (f (runOn s))

/-- As `taken`, for the steps that are themselves what follows. -/
def takenAlone (f : State → State) (s : State) : Result := if s.pinHeld then .next s else .next (f s)

/-! ### Reads and staging (R157, R158) -/

/-- The staged value as a READ returns it (R157). -/
def stagedBody (k : Link) (it : StageItem) : List Octet :=
  match stagedFor k.staging it with
  | some v => 1 :: v.octets
  | none => [0]

/-- A READ of WANDER empties the requesting link's window (R35). -/
def afterRead (l : LinkId) (it : StatusItem) (s : State) : State :=
  match it with
  | .wander t => s.setStore t (s.stores[t].clearWander l)
  | .trunk _ | .store _ | .history _ | .candidate _ | .selector | .synth | .timing | .cause | .link | .capture => s

/-- READ (R157). -/
def handleRead (l : LinkId) (q : Request) (code i1 i2 selector : Octet) (s : State) : State :=
  match stageItemOf code i1 i2, statusItemOf code i1 with
  | some it, _ =>
    if selector = 0 then answer l q .ok (s.cfg.item it).octets s
    else if selector = 1 then answer l q .ok (stagedBody (s.link l) it) s
    else answer l q .badValue [] s
  | none, some it =>
    if selector = 0 then answer l q .ok (statusBody s l it) (afterRead l it s)
    else if selector = 1 then answer l q .badItem [] s
    else answer l q .badValue [] s
  | none, none => answer l q .badItem [] s

/-- STAGE (R158). -/
def handleStage (l : LinkId) (q : Request) (code i1 i2 : Octet) (value : List Octet) (s : State) : State :=
  match stageItemOf code i1 i2 with
  | none => answer l q .badItem [] s
  | some it =>
    if value.length ≠ it.valueLength then answer l q .badLength [] s
    else
      match stagedValue it value with
      | none => answer l q .badValue [] s
      | some v =>
        answer l q .ok v.octets
          (s.setLink l { s.link l with staging := placeStaged (s.link l).staging v })

/-- DISCARD (R158). -/
def handleDiscard (l : LinkId) (q : Request) (s : State) : State :=
  answer l q .ok [] (s.setLink l { s.link l with staging := [] })

/-! ### Commit (R159) -/

/-- The configuration a commit of link l proposes (8.7). -/
def mergedConfig (s : State) (l : LinkId) : Settings := s.cfg.merge (s.link l).staging

/-- The first check of R159 that fails, if one does. -/
def commitRefusal (s : State) (l : LinkId) (expected : Word16) : Option Status :=
  if (s.link l).staging.isEmpty then some .empty
  else if s.commit.isSome then some .commitPending
  else if expected ≠ s.generation then some .stale
  else if (mergedConfig s l).valid then none
  else some .conflict

/-- The epoch that the first multiframe start after this moment begins for the configuration store: the start at this
instant, while neither the generator nor an apply has taken it, or else the next (R160, R162). -/
def nextMultiframe (s : State) : Epoch :=
  if s.startDue ∧ s.gen.frameNumber = 15 ∧ s.applied then s.gen.epoch + 2 else s.gen.epoch + 1

/-- COMMIT (R159): pending from its taking, with no response until the apply. -/
def handleCommit (l : LinkId) (q : Request) (expected : Word16) (s : State) : State :=
  match commitRefusal s l expected with
  | some why => answer l q why [] s
  | none => await l q .commit { s with commit := some { link := l, start := nextMultiframe s } }

/-! ### The other kinds -/

/-- SWITCH: the response carries the selection as it stands after the request (R111). -/
def handleSwitch (l : LinkId) (q : Request) (action operand option : Octet) (s : State) : State :=
  let (status, t) := switchAction l action operand option s
  answer l q status [candidateOctet t.sel.selection] t

/-- RESTART (R18). -/
def handleRestart (l : LinkId) (q : Request) (t : Trunk) (s : State) : State :=
  if s.cfg.trunks[t].enabled then answer l q .ok [] (restartTrunk t s) else answer l q .invalidState [] s

/-- RECENTER (R32). -/
def handleRecenter (l : LinkId) (q : Request) (t : Trunk) (s : State) : State :=
  let x := s.stores[t]
  match x.state with
  | .run => answer l q .ok [] (s.setStore t (x.recenter (slipRecord s .recenter x.queue.length)))
  | .idle | .priming => answer l q .invalidState [] s

/-- TRUNK: another action or a trunk above 47 is refused BAD-VALUE (R155). -/
def handleTrunk (l : LinkId) (q : Request) (action trunk : Octet) (s : State) : State :=
  match below 48 trunk with
  | none => answer l q .badValue [] s
  | some t =>
    if action = 1 then handleRestart l q t s
    else if action = 2 then handleRecenter l q t s
    else answer l q .badValue [] s

/-- CAPTURE (R43). -/
def handleCapture (l : LinkId) (q : Request) (trunk : Octet) (s : State) : State :=
  match below 48 trunk with
  | none => answer l q .badValue [] s
  | some t => await l q (.capture t none) s

/-- The overflow flag clears at the EVENTS response that leaves the queue empty (R168). -/
def clearDrained (k : Link) : Link := if k.queue.isEmpty then { k with overflow := false } else k

/-- EVENTS (R168): the removal, the response with the overflow flag as it stood, then the flag. -/
def handleEvents (l : LinkId) (q : Request) (count : Octet) (s : State) : State :=
  let n := count.toNat
  if 1 ≤ n ∧ n ≤ 8 then
    let k := s.link l
    let t := answer l q .ok ((k.queue.take n).flatMap Event.octets)
      (s.setLink l { k with queue := k.queue.drop n })
    t.setLink l (clearDrained (t.link l))
  else answer l q .badValue [] s

/-- The counters of all stores and framers set to 0 (R37). -/
def clearCounters (s : State) : State :=
  { s with
    stores := Vector.ofFn fun t => { s.stores[t] with repeats := 0, deletes := 0 }
    framers := Vector.ofFn fun t => { s.framers[t] with alignErrors := 0 } }

/-- CLEAR COUNTERS (R37). -/
def handleClearCounters (l : LinkId) (q : Request) (s : State) : State :=
  answer l q .ok [] (raise .countersCleared (.link l) 0 (clearCounters s))

/-- CLEAR RESET-CAUSE (R170). -/
def handleClearCause (l : LinkId) (q : Request) (s : State) : State := answer l q .ok [] { s with cause := 0 }

/-- MASK (R169): bits 6 and 7 are refused. -/
def handleMask (l : LinkId) (q : Request) (m : Octet) (s : State) : State :=
  if m &&& 0xC0 ≠ 0 then answer l q .badValue [] s
  else answer l q .ok [m] (s.setLink l { s.link l with mask := m })

/-! ### Resets over a link (R163, R164, R172) -/

/-- What a link reset does to the link (R163). -/
def Link.restart (k : Link) : Link :=
  { k with state := .ready, outstanding := none, waiting := [], staging := [], queue := [], overflow := false,
           mask := defaultMask, capture := none }

/-- Every store's wander window of a link emptied (R34). -/
def clearWanders (l : LinkId) (s : State) : State :=
  { s with stores := Vector.ofFn fun t => s.stores[t].clearWander l }

/-- The reset of one link: its pending commit and capture abandoned, its own state emptied (R163, R161, R45). -/
def restartLink (l : LinkId) (s : State) : State :=
  let t := clearWanders l { s with commit := if commitFrom s l then none else s.commit }
  t.setLink l (t.link l).restart

/-- RESET LINK (R163). -/
def handleResetLink (l : LinkId) (q : Request) (s : State) : State := answer l q .ok [] (restartLink l s)

/-- The reset-cause bit of a warm reset (R170). -/
def warmBit : LinkId → Octet
  | .a => 0x04
  | .b => 0x08

/-- A store after a warm reset: its slip windows go on at the same epochs (R49). The links' resets empty the wander
windows. -/
def Store.warm (x : Store) : Store := { Store.reset with windowFrom := x.windowFrom, wanderA := x.wanderA, wanderB := x.wanderB }

/-- The synthesizer after a warm reset: H, the history count and R are kept (R150). -/
def Synth.warm (y : Synth) (f0 : Int) : Synth :=
  { y.release f0 with
    state := if y.holdoverValid then .holdover else .freerun
    o := 0
    last := none }

/-- The blocks' part of a warm reset (R172: R19, R49, R86, R102, R127, R150). -/
def warmBlocks (s : State) : State :=
  recomputeQl
    { s with
      framers := Vector.ofFn fun t => Framer.warm s.cfg.trunks[t].enabled s.gen.tick
      stores := Vector.ofFn fun t => s.stores[t].warm
      cands := Vector.ofFn fun c => Runtime.restarted s.cfg.cands[c].enabled
      sel := Selector.reset
      synth := s.synth.warm s.cfg.synth.f0 }

/-- The warm reset requested on link l (R164, R172). -/
def warmReset (l : LinkId) (s : State) : State :=
  let t := restartLink .b (restartLink .a (warmBlocks s))
  let cause := s.cause ||| warmBit l
  raise .reset (.link l) (cause.setWidth 16) { t with cause := cause }

/-- RESET PART: the requesting link answers after the reset (R164, R172). -/
def handleResetPart (l : LinkId) (q : Request) (s : State) : State := answer l q .ok [] (warmReset l s)

/-- RESET: `no` makes the refusals of R155, which depend on the link's state (R151). -/
def handleReset (l : LinkId) (q : Request) (no : Status → State → State) (s : State) : State :=
  match q.body with
  | [operand] =>
    if operand = 1 then handleResetLink l q s
    else if operand = 2 then handleResetPart l q s
    else no .badValue s
  | _ => no .badLength s

/-! ### The taking of a request (R151, R153, R155) -/

/-- CLEAR (R155). -/
def handleClear (l : LinkId) (q : Request) (option : Octet) (s : State) : State :=
  if option = 1 then handleClearCounters l q s
  else if option = 2 then handleClearCause l q s
  else answer l q .badValue [] s

/-- A request whose body has another length than its kind asks for (R155). -/
def wrongLength (l : LinkId) (q : Request) (s : State) : State := answer l q .badLength [] s

/-- The kinds with no body octet, 1 IDENTIFY and 5 DISCARD (R155). -/
def handleBare (l : LinkId) (q : Request) (s : State) : State :=
  if q.body = [] then
    if q.kind = 1 then answer l q .ok identification s else handleDiscard l q s
  else wrongLength l q s

/-- The kinds with one body octet: 8 CAPTURE, 9 EVENTS, 10 CLEAR, 11 MASK (R155). -/
def handleOne (l : LinkId) (q : Request) (s : State) : State :=
  match q.body with
  | [x] =>
    if q.kind = 8 then handleCapture l q x s
    else if q.kind = 9 then handleEvents l q x s
    else if q.kind = 10 then handleClear l q x s
    else handleMask l q x s
  | _ => wrongLength l q s

/-- The kinds with two body octets, 4 COMMIT and 7 TRUNK (R155). -/
def handleTwo (l : LinkId) (q : Request) (s : State) : State :=
  match q.body with
  | [x, y] => if q.kind = 4 then handleCommit l q (word16 x y) s else handleTrunk l q x y s
  | _ => wrongLength l q s

/-- READ, kind 2, by its body (R155). -/
def handleReadBody (l : LinkId) (q : Request) (s : State) : State :=
  match q.body with
  | [code, i1, i2, selector] => handleRead l q code i1 i2 selector s
  | _ => wrongLength l q s

/-- STAGE, kind 3, by its body: one shorter than 3 octets is refused before any other check (R158). -/
def handleStageBody (l : LinkId) (q : Request) (s : State) : State :=
  match q.body with
  | code :: i1 :: i2 :: value => handleStage l q code i1 i2 value s
  | _ => wrongLength l q s

/-- SWITCH, kind 6, by its body (R111). -/
def handleSwitchBody (l : LinkId) (q : Request) (s : State) : State :=
  match q.body with
  | [action, operand, option] => handleSwitch l q action operand option s
  | _ => wrongLength l q s

/-- A request with a right check, by its kind (R153, R155). -/
def handleKind (l : LinkId) (q : Request) (s : State) : State :=
  if q.kind = 1 ∨ q.kind = 5 then handleBare l q s
  else if q.kind = 2 then handleReadBody l q s
  else if q.kind = 3 then handleStageBody l q s
  else if q.kind = 4 ∨ q.kind = 7 then handleTwo l q s
  else if q.kind = 6 then handleSwitchBody l q s
  else if q.kind = 8 ∨ q.kind = 9 ∨ q.kind = 10 ∨ q.kind = 11 then handleOne l q s
  else if q.kind = 12 then handleReset l q (fun why => answer l q why []) s
  else answer l q .badKind [] s

/-- A link takes a request received whole (R151, R153). -/
def takeRequest (l : LinkId) (q : Request) (s : State) : State :=
  match (s.link l).state with
  | .ready => if q.rightCheck = q.check then handleKind l q s else answer l q .badCheck [] s
  | .serving | .waiting =>
    if q.rightCheck = q.check ∧ q.kind = 12 then handleReset l q (answerAside l q) s
    else answerAside l q .busy s

/-- A request that ends at a length octet above 64 (R153, R151). -/
def takeOverlong (l : LinkId) (q : Request) (s : State) : State :=
  match (s.link l).state with
  | .ready => answer l q .badLength [] s
  | .serving | .waiting => answerAside l q .busy s

/-! ### The request line (R152) -/

/-- The request in reception and its inter-octet timer. -/
def setReception (l : LinkId) (os : List Octet) (timer : Option Tick) (s : State) : State :=
  s.setLink l { s.link l with reception := os, octetFrom := timer }

/-- The request whose octets, start octet first, have all been received (5.3). -/
def requestOf (os : List Octet) : Request :=
  let n := os.length
  { kind := os.getD 1 0, tag := os.getD 2 0, body := (os.drop 4).take (n - 6),
    check := word16 (os.getD (n - 2) 0) (os.getD (n - 1) 0) }

/-- The octets received, with the one just taken: overlong, whole, or still in reception (R152, R153). -/
def receive (l : LinkId) (got : List Octet) (s : State) : State :=
  let n := (got.getD 3 0).toNat
  if got.length = 4 ∧ 64 < n then takeOverlong l (requestOf got) (setReception l [] none s)
  else if 4 < got.length ∧ n + 6 ≤ got.length then takeRequest l (requestOf got) (setReception l [] none s)
  else setReception l got (some s.gen.tick) s

/-- An octet on a request line (R152). -/
def requestOctet (l : LinkId) (o : Octet) (s : State) : State :=
  match (s.link l).reception with
  | [] => if o = 0x7E then setReception l [o] (some s.gen.tick) s else s
  | got => receive l (got ++ [o]) s

/-- The inter-octet timer of a link has run 256 µs (R152). -/
def interOctetDue (s : State) (l : LinkId) : Bool := timerOver s (s.link l).octetFrom Config.interOctetTicks

/-- The partial request is discarded without a response (R152). -/
def expireReception (l : LinkId) (s : State) : State := if interOctetDue s l then setReception l [] none s else s

end Sys2Proof.Machine
end

