-- ==== Sys2Proof/Machine/Apply.lean ====
section
/-! DEFINITION. The apply of a pending commit at a multiframe start (R160 and the blocks' own rules). -/

namespace Sys2Proof.Machine

/-- The link whose commit applies at this instant: the multiframe start its commit waits for is due, or the generator
has just taken it (R160, R162). -/
def commitDue (s : State) : Option LinkId :=
  match s.commit with
  | some p => if s.multiframeAt = some p.start then some p.link else none
  | none => none

/-- A changed trunk enable (R2, R48). An enable at a window boundary whose window end has been taken makes the window
that began there complete so far (R41). -/
def applyTrunk (old : Settings) (t : Trunk) (s : State) : State :=
  if old.trunks[t].enabled = s.cfg.trunks[t].enabled then s
  else if s.cfg.trunks[t].enabled then
    enableTrunk t (decide (s.gen.epoch.toNat % 4096 = 0 ∧ s.stores[t].windowFrom = s.gen.epoch)) s
  else disableTrunk t s

/-- A changed candidate (R80, R81). -/
def applyCandidate (old : Settings) (c : Cand) (s : State) : State :=
  resetCandidate old.cands[c] s.cfg.cands[c] c s

/-- The blocks whose actions at an apply are taken in either order (R81). -/
inductive ApplyUnit where
  | trunk (t : Trunk)
  | candidate (c : Cand)
deriving DecidableEq, Repr

def ApplyUnit.take (old : Settings) : ApplyUnit → State → State
  | .trunk t => applyTrunk old t
  | .candidate c => applyCandidate old c

def applyUnits : List ApplyUnit := (List.finRange 48).map .trunk ++ (List.finRange 8).map .candidate

/-- A lane map or test pattern changed after the plane port took this frame start: frame 0 is fixed again (R60). -/
def applyLanes (old : Settings) (p : Plane) (s : State) : State :=
  if old.lanes p = s.cfg.lanes p ∧ old.pattern p = s.cfg.pattern p then s else fixLanes p s

/-- A new F0 in FREERUN, and the QL settings (R144, R146). -/
def applySynth (old : Settings) (s : State) : State :=
  recomputeQl
    (if old.synth.f0 ≠ s.cfg.synth.f0 ∧ s.synth.state = .freerun then
      s.setSynth { s.synth with f := s.cfg.synth.f0, i := s.cfg.synth.f0 }
    else s)

/-- The selector's action at an apply (R124). -/
def applySelector (l : LinkId) (s : State) : State :=
  let disabled := fun c : Cand => !s.cfg.cands[c].enabled
  evaluate (.commit l) none (dropManualIf disabled .disabled (dropForcedIf disabled .disabled s))

/-- The new configuration in force, its generation, and CONFIG-COMMITTED (R160). -/
def installConfig (l : LinkId) (s : State) : State :=
  let n := s.generation + 1
  raise .configCommitted (.link l) n { s with cfg := mergedConfig s l, generation := n }

/-- A configuration with the quality mode, the revertive setting and the priorities of another. -/
def Settings.withPolicy (k old : Settings) : Settings :=
  { k with
    selector := { k.selector with quality := old.selector.quality, revertive := old.selector.revertive }
    cands := Vector.ofFn fun c => { k.cands[c] with priority := old.cands[c].priority } }

/-- What the framers, stores, monitors and runtime records do with the items that changed (R2, R48, R80). A changed quality
mode, revertive setting or priority is used from the selector's own action on (R103, R124), so an evaluation that an
activity loss makes here goes by the old ones; the rest of the configuration is the new one (assumption 27). -/
def applyUnder (ord : Nat) (old : Settings) (s : State) : State :=
  let t := (inOrder ord applyUnits).foldl (fun s u => u.take old s) { s with cfg := s.cfg.withPolicy old }
  { t with cfg := s.cfg }

/-- What every block does with the items that changed, the selector last (R160, R124). -/
def applyBlocks (ord : Nat) (old : Settings) (started : Bool) (l : LinkId) (s : State) : State :=
  let s1 := applyUnder ord old s
  let s2 := if started then applyLanes old .b (applyLanes old .a s1) else s1
  applySelector l (applySynth old s2)

/-- The committing link's staging area is emptied, the commit is no longer pending, and the completion response is made
(R160). -/
def finishCommit (l : LinkId) (s : State) : State :=
  let t := { s.setLink l { s.link l with staging := [] } with commit := none, applied := true }
  match (t.link l).outstanding with
  | some o => complete l o [] t
  | none => t

/-- COMMIT_APPLY: nothing unless a pending commit meets its multiframe start (R160; assumption 2). -/
def applyCommit (ord : Nat) (s : State) : State :=
  match commitDue s with
  | none => s
  | some l =>
    let started := !s.startDue
    finishCommit l
      (atEpoch (s.multiframeAt.getD s.gen.epoch)
        (fun u => applyBlocks ord s.cfg started l (installConfig l u)) s)

end Sys2Proof.Machine
end

