-- ==== Sys2Proof/Machine/LinkSteps.lean ====
section
/-! DEFINITION. The meanings of the links' lines and of the requests received whole: the kind and body of each row (R155,
R111) taken by its link (R151). -/

namespace Sys2Proof.Machine

/-- A request of a kind and body, received whole with a check, is taken by link l. -/
def request (l : LinkId) (kind tag : Octet) (body : List Octet) (check : Word16) (s : State) : Result :=
  taken (takeRequest l { kind := kind, tag := tag, body := body, check := check }) s

/-- COMMIT_APPLY (R160). -/
def execCommitApply (ord : Nat) (s : State) : Result := taken (applyCommit ord) s

/-- INTER_OCTET_TIMER_EXPIRY (R152). -/
def execInterOctetTimerExpiry (l : LinkId) (s : State) : Result := taken (expireReception l) s

/-- RESPONSE_SENT (R154). -/
def execResponseSent (l : LinkId) (s : State) : Result := taken (fun t => t.setLink l (t.link l).sent) s

/-- REQUEST_LINE_OCTET_ARRIVAL (R152). -/
def execRequestLineOctetArrival (l : LinkId) (o : Octet) (s : State) : Result := taken (requestOctet l o) s

/-- IDENTIFY (R170). -/
def execIdentify (l : LinkId) (tag : Octet) (check : Word16) (s : State) : Result := request l 1 tag [] check s

/-- READ (R157). -/
def execRead (l : LinkId) (tag item index1 index2 selector : Octet) (check : Word16) (s : State) : Result :=
  request l 2 tag [item, index1, index2, selector] check s

/-- STAGE (R158). -/
def execStage (l : LinkId) (tag item index1 index2 : Octet) (value : List Octet) (check : Word16) (s : State) :
    Result :=
  request l 3 tag (item :: index1 :: index2 :: value) check s

/-- COMMIT (R159). -/
def execCommit (l : LinkId) (tag : Octet) (expected check : Word16) (s : State) : Result :=
  request l 4 tag (be16 expected) check s

/-- DISCARD (R158). -/
def execDiscard (l : LinkId) (tag : Octet) (check : Word16) (s : State) : Result := request l 5 tag [] check s

/-- SWITCH LOCKOUT (R112). -/
def execLockout (l : LinkId) (tag operand option : Octet) (check : Word16) (s : State) : Result :=
  request l 6 tag [1, operand, option] check s

/-- SWITCH UNLOCK (R113). -/
def execUnlock (l : LinkId) (tag operand option : Octet) (check : Word16) (s : State) : Result :=
  request l 6 tag [2, operand, option] check s

/-- SWITCH FORCE (R114). -/
def execForce (l : LinkId) (tag operand option : Octet) (check : Word16) (s : State) : Result :=
  request l 6 tag [3, operand, option] check s

/-- SWITCH FORCE HOLDOVER (R114). -/
def execForceHoldover (l : LinkId) (tag operand option : Octet) (check : Word16) (s : State) : Result :=
  request l 6 tag [4, operand, option] check s

/-- SWITCH MANUAL (R115). -/
def execManual (l : LinkId) (tag operand option : Octet) (check : Word16) (s : State) : Result :=
  request l 6 tag [5, operand, option] check s

/-- SWITCH RELEASE FORCED (R117). -/
def execReleaseForced (l : LinkId) (tag option : Octet) (check : Word16) (s : State) : Result :=
  request l 6 tag [6, 1, option] check s

/-- SWITCH RELEASE MANUAL (R118). -/
def execReleaseManual (l : LinkId) (tag option : Octet) (check : Word16) (s : State) : Result :=
  request l 6 tag [6, 2, option] check s

/-- SWITCH CLEAR-WAIT (R122). -/
def execClearWait (l : LinkId) (tag operand option : Octet) (check : Word16) (s : State) : Result :=
  request l 6 tag [7, operand, option] check s

/-- TRUNK RESTART (R18). -/
def execRestart (l : LinkId) (tag trunk : Octet) (check : Word16) (s : State) : Result :=
  request l 7 tag [1, trunk] check s

/-- TRUNK RECENTER (R32). -/
def execRecenter (l : LinkId) (tag trunk : Octet) (check : Word16) (s : State) : Result :=
  request l 7 tag [2, trunk] check s

/-- CAPTURE (R43). -/
def execCapture (l : LinkId) (tag trunk : Octet) (check : Word16) (s : State) : Result :=
  request l 8 tag [trunk] check s

/-- EVENTS (R168). -/
def execEvents (l : LinkId) (tag count : Octet) (check : Word16) (s : State) : Result :=
  request l 9 tag [count] check s

/-- CLEAR COUNTERS (R37). -/
def execClearCounters (l : LinkId) (tag : Octet) (check : Word16) (s : State) : Result :=
  request l 10 tag [1] check s

/-- CLEAR RESET-CAUSE (R170). -/
def execClearResetCause (l : LinkId) (tag : Octet) (check : Word16) (s : State) : Result :=
  request l 10 tag [2] check s

/-- MASK (R169). -/
def execMask (l : LinkId) (tag newMask : Octet) (check : Word16) (s : State) : Result :=
  request l 11 tag [newMask] check s

/-- RESET LINK (R163). -/
def execResetLink (l : LinkId) (tag : Octet) (check : Word16) (s : State) : Result := request l 12 tag [1] check s

/-- RESET PART (R164, R172). -/
def execResetPart (l : LinkId) (tag : Octet) (check : Word16) (s : State) : Result := request l 12 tag [2] check s

/-- A request of another kind (R153). -/
def execBadKindRequest (l : LinkId) (tag kind : Octet) (body : List Octet) (check : Word16) (s : State) : Result :=
  request l kind tag body check s

end Sys2Proof.Machine
end

