-- ==== Sys2Proof/Machine/ReferenceSteps.lean ====
section
/-! DEFINITION. The meanings of the steps of monitors, selector and synthesizer. -/

namespace Sys2Proof.Machine

/-- STATION_INPUT_EDGE (R71). -/
def execStationInputEdge (i : Station) (s : State) : Result := taken (stationEdge i) s

/-- WINDOW_END (R75). -/
def execWindowEnd (c : Cand) (s : State) : Result := takenAlone (endWindow c) s

/-- ACTIVITY_TIMER_EXPIRY (R76). -/
def execActivityTimerExpiry (c : Cand) (s : State) : Result := taken (expireActivity c) s

/-- WAIT_END (R121). -/
def execWaitEnd (c : Cand) (s : State) : Result := taken (endWait c) s

/-- ACQUIRE_TIMEOUT (R140, R123). -/
def execAcquireTimeout (s : State) : Result := taken acquireTimeoutStep s

end Sys2Proof.Machine
end

