-- ==== Sys2Proof/Machine/ResetSteps.lean ====
section
/-! DEFINITION. The meanings of the pin reset and the power-on reset (R54, R170, R171, 9.4). -/

namespace Sys2Proof.Machine

/-- The part starts from its defaults; the queue of commands and the model's own counter of draws go on. -/
def releasePart (cause : Octet) (s : State) : State :=
  { State.released cause with free := s.free, pending := s.pending }

/-- PIN_RESET_ASSERT: the part is held (R54). -/
def execPinResetAssert (s : State) : Result := .next { s with pinHeld := true }

/-- PIN_RESET_RELEASE (R171). -/
def execPinResetRelease (s : State) : Result := .next (releasePart 0x02 s)

/-- POWER_ON_RESET_RELEASE (R171). -/
def execPowerOnResetRelease (s : State) : Result := .next (releasePart 0x01 s)

end Sys2Proof.Machine
end

