-- ==== Sys2Proof/Machine/TrunkSteps.lean ====
section
/-! DEFINITION. The meanings of the steps of trunks, stores and frames. -/

namespace Sys2Proof.Machine

/-- TRUNK_OCTET_ARRIVAL (R1). -/
def execTrunkOctetArrival (t : Trunk) (o : Octet) (s : State) : Result := taken (octetArrival t o) s

/-- LOSS_OF_SIGNAL_EXPIRY (R3). -/
def execLossOfSignalExpiry (t : Trunk) (s : State) : Result := taken (expireSignal t) s

/-- EXCHANGE_FRAME_START (R51, R52). -/
def execExchangeFrameStart (ord : Nat) (s : State) : Result := taken (frameStartStep ord) s

/-- CAPTURE_COMPLETION (R44). -/
def execCaptureCompletion (l : LinkId) (s : State) : Result := takenAlone (completeCapture l) s

/-- SLIP_WINDOW_END (R40). -/
def execSlipWindowEnd (t : Trunk) (s : State) : Result := taken (endSlipWindow t) s

end Sys2Proof.Machine
end

