-- ==== Sys2Proof/Machine/Dispatch.lean ====
section
/-! DEFINITION. The meaning of every command. -/

namespace Sys2Proof.Machine

def exec (i : Instr) (s : State) : Host.Outcome State Fault Refusal :=
  match i with
  | .trunkOctetArrival t o => Sys2Proof.Machine.execTrunkOctetArrival t o s
  | .lossOfSignalExpiry t => Sys2Proof.Machine.execLossOfSignalExpiry t s
  | .exchangeFrameStart ord => Sys2Proof.Machine.execExchangeFrameStart ord s
  | .captureCompletion l => Sys2Proof.Machine.execCaptureCompletion l s
  | .waitEnd c => Sys2Proof.Machine.execWaitEnd c s
  | .acquireTimeout => Sys2Proof.Machine.execAcquireTimeout s
  | .slipWindowEnd t => Sys2Proof.Machine.execSlipWindowEnd t s
  | .stationInputEdge j => Sys2Proof.Machine.execStationInputEdge j s
  | .windowEnd c => Sys2Proof.Machine.execWindowEnd c s
  | .activityTimerExpiry c => Sys2Proof.Machine.execActivityTimerExpiry c s
  | .commitApply ord => Sys2Proof.Machine.execCommitApply ord s
  | .interOctetTimerExpiry l => Sys2Proof.Machine.execInterOctetTimerExpiry l s
  | .responseSent l => Sys2Proof.Machine.execResponseSent l s
  | .identify l tag check => Sys2Proof.Machine.execIdentify l tag check s
  | .read l tag item i1 i2 selector check => Sys2Proof.Machine.execRead l tag item i1 i2 selector check s
  | .stage l tag item i1 i2 value check => Sys2Proof.Machine.execStage l tag item i1 i2 value check s
  | .commit l tag expected check => Sys2Proof.Machine.execCommit l tag expected check s
  | .discard l tag check => Sys2Proof.Machine.execDiscard l tag check s
  | .lockout l tag operand option check => Sys2Proof.Machine.execLockout l tag operand option check s
  | .unlock l tag operand option check => Sys2Proof.Machine.execUnlock l tag operand option check s
  | .force l tag operand option check => Sys2Proof.Machine.execForce l tag operand option check s
  | .forceHoldover l tag operand option check => Sys2Proof.Machine.execForceHoldover l tag operand option check s
  | .manual l tag operand option check => Sys2Proof.Machine.execManual l tag operand option check s
  | .releaseForced l tag option check => Sys2Proof.Machine.execReleaseForced l tag option check s
  | .releaseManual l tag option check => Sys2Proof.Machine.execReleaseManual l tag option check s
  | .clearWait l tag operand option check => Sys2Proof.Machine.execClearWait l tag operand option check s
  | .restart l tag trunk check => Sys2Proof.Machine.execRestart l tag trunk check s
  | .recenter l tag trunk check => Sys2Proof.Machine.execRecenter l tag trunk check s
  | .capture l tag trunk check => Sys2Proof.Machine.execCapture l tag trunk check s
  | .events l tag count check => Sys2Proof.Machine.execEvents l tag count check s
  | .clearCounters l tag check => Sys2Proof.Machine.execClearCounters l tag check s
  | .clearResetCause l tag check => Sys2Proof.Machine.execClearResetCause l tag check s
  | .mask l tag newMask check => Sys2Proof.Machine.execMask l tag newMask check s
  | .resetLink l tag check => Sys2Proof.Machine.execResetLink l tag check s
  | .resetPart l tag check => Sys2Proof.Machine.execResetPart l tag check s
  | .pinResetAssert => Sys2Proof.Machine.execPinResetAssert s
  | .pinResetRelease => Sys2Proof.Machine.execPinResetRelease s
  | .powerOnResetRelease => Sys2Proof.Machine.execPowerOnResetRelease s
  | .requestLineOctetArrival l o => Sys2Proof.Machine.execRequestLineOctetArrival l o s
  | .badKindRequest l tag kind body check => Sys2Proof.Machine.execBadKindRequest l tag kind body check s

end Sys2Proof.Machine
end

