-- ==== Sys2Proof/Machine/Idle.lean ====
section
/-! DEFINITION. What the part does when no command waits: it puts the steps due at this instant into its queue, or a tick
of the local oscillator passes (R50; assumptions 1 and 3). -/

namespace Sys2Proof.Machine

/-- The members of a list that meet a test, as commands. -/
def commandsFor {α : Type} (xs : List α) (p : α → Bool) (f : α → Instr) : List Instr := (xs.filter p).map f

/-- A single command, if it is due. -/
def commandIf (p : Bool) (i : Instr) : List Instr := if p then [i] else []

/-- A capture that a read has handed to a link awaits its completion (R44). -/
def captureDue (s : State) (l : LinkId) : Bool := (handedCapture (s.link l)).isSome

/-- An acquire timeout awaits the selector, or the acquire timer stands at 1024 (R140). -/
def timeoutDue (s : State) : Bool :=
  !s.sel.timeouts.isEmpty
    || (s.synth.state == .acquire && s.sel.selection.isSome && decide (Config.acquireSamples ≤ s.synth.acquireTimer))

/-- The steps of the table that are due at this instant and not yet taken. -/
def dueCommands (s : State) : List Instr :=
  commandsFor (List.finRange 8) (windowEndDue s) .windowEnd
    ++ commandsFor [LinkId.a, .b] (captureDue s) .captureCompletion
    ++ commandIf s.startDue (.exchangeFrameStart (Config.freeOrder s.free 0))
    ++ commandsFor (List.finRange 48) (fun t => (slipWindowDue s t).isSome) .slipWindowEnd
    ++ commandIf (commitDue s).isSome (.commitApply (Config.freeOrder s.free 1))
    ++ commandIf (timeoutDue s) .acquireTimeout
    ++ commandsFor (List.finRange 8) (waitEndDue s) .waitEnd
    ++ commandsFor (List.finRange 8) (activityDue s) .activityTimerExpiry
    ++ commandsFor (List.finRange 48) (losDue s) .lossOfSignalExpiry
    ++ commandsFor [LinkId.a, .b] (interOctetDue s) .interOctetTimerExpiry

/-- One tick of the local oscillator: the instant of the tick before is over (R50, R71). -/
def oneTick (s : State) : State :=
  { s with gen := { s.gen with tick := s.gen.tick + 1 }, s1 := s.s1.tick, s2 := s.s2.tick, applied := false }

/-- The part with no command waiting: held, or the due steps join the queue in a free order, or a tick passes. -/
def idle (s : State) : State :=
  if s.pinHeld then s
  else
    match dueCommands s with
    | [] => oneTick s
    | i :: is =>
      { s with pending := s.pending ++ inOrder (Config.freeOrder s.free 2) (i :: is), free := s.free + 1 }

end Sys2Proof.Machine
end

