-- ==== Sys2Proof/Safety.lean ====
section
/-! DEFINITION. When a command is taken in the ordinary way, and what every state that the part can reach keeps. -/

namespace Sys2Proof.Machine

/-! ### When a command is taken -/

/-- The part is not held by its reset pin (R54). -/
def Running (s : State) : Prop := s.pinHeld = false

/-- Nothing that follows from a step already taken still waits: no window at its 512th interval (R74), no capture handed
over (R44). -/
def Settled (s : State) : Prop := (∀ c, windowEndDue s c = false) ∧ ∀ l, handedCapture (s.link l) = none

/-- The part takes a command at once. -/
def Takes (s : State) : Prop := Running s ∧ Settled s

/-- The part takes a request on link l at once, and the link is in READY (R151). -/
def Ready (s : State) (l : LinkId) : Prop := Takes s ∧ (s.link l).state = .ready

/-- The right check of a request (R153). -/
def checkFor (kind tag : Octet) (body : List Octet) : Word16 := checkOf (kind :: tag :: octet body.length :: body)

/-- A command that the model lets take what still follows from the step before (assumption 4): all but the steps that
are themselves what follows, and the resets of the whole part. -/
def runsOn : Instr → Bool
  | .captureCompletion _ | .windowEnd _ | .pinResetAssert | .pinResetRelease | .powerOnResetRelease => false
  | _ => true

/-- A release of a reset of the whole part (9.4). -/
def isRelease : Instr → Bool
  | .pinResetRelease | .powerOnResetRelease => true
  | _ => false

/-! ### Event queues (R166, R167) -/

/-- A link that has only been offered events: its queue may have grown at its end and its overflow flag may have been set,
nothing else. -/
def Heard (k k' : Link) : Prop :=
  ∃ more full, k' = { k with queue := k.queue ++ more, overflow := k.overflow || full }

/-- A queue holds at most 32 events, and the overflow flag is never set while the queue is empty (R167). -/
def Link.queueFits (k : Link) : Prop := k.queue.length ≤ 32 ∧ (k.overflow = true → k.queue ≠ [])

def QueuesFit (s : State) : Prop := s.linkA.queueFits ∧ s.linkB.queueFits

/-! ### The synthesizer's ranges (R128, R129, R130, R142) -/

/-- The range of F, I, H and F0 (R128, R129). -/
def InRange (x : Int) : Prop := -10000 ≤ x ∧ x ≤ 10000

/-- A staged SYNTH-CONFIG carries an F0 in range (R128). -/
def ItemValue.trimInRange : ItemValue → Prop
  | .synth v => InRange v.f0
  | .trunk _ _ | .lane _ _ _ | .pattern _ _ | .candidate _ _ | .rule _ _ | .loopGuard _ _ | .selector _ | .monitor _
  | .output _ _ => True

/-- F, I, H and every F0 that may reach them lie in range, R is a residue, the history count is at most 64, and the
frame length is one of the three (R51, R129, R130, R142). -/
def SynthInRange (s : State) : Prop :=
  InRange s.synth.f ∧ InRange s.synth.i ∧ InRange s.synth.h ∧ s.synth.r < 65536 ∧ s.synth.history ≤ 64
    ∧ (s.gen.frameLength = 3071 ∨ s.gen.frameLength = 3072 ∨ s.gen.frameLength = 3073)
    ∧ InRange s.cfg.synth.f0 ∧ ∀ l, ∀ v ∈ (s.link l).staging, v.trimInRange

/-- The synthesizer is in ACQUIRE or LOCKED exactly while a candidate is selected (7.1, R132, R133). -/
def SynthFollows (s : State) : Prop :=
  (s.synth.state = .acquire ∨ s.synth.state = .locked) ↔ s.sel.selection.isSome = true

/-! ### Stores (R20 to R29, the table of 2.2) -/

/-- What a store holds in each of its states, and its limits (2.1, 2.2). -/
def Store.sound (x : Store) : Prop :=
  x.queue.length ≤ 4 ∧ x.history.length ≤ 4 ∧ x.inProgress.length ≤ 35
    ∧ match x.state with
      | .idle => x.queue = [] ∧ x.inProgress = [] ∧ x.last = none
      | .priming => x.last = none
      | .run => x.last.isSome = true

/-- Every store is sound; a store is in IDLE exactly while its framer is not ALIGNED (2.2), and a framer is in OFF
exactly while its trunk is disabled (R2). -/
def StoresSound (s : State) : Prop :=
  ∀ t : Trunk, (s.stores[t]).sound
    ∧ ((s.stores[t]).state = .idle ↔ (s.framers[t]).state.isAligned = false)
    ∧ ((s.framers[t]).state = .off ↔ (s.cfg.trunks[t]).enabled = false)

/-! ### Standing requests (R106, R116) and the selected candidate (R108) -/

/-- A forced target is enabled, and no standing request names a locked-out candidate (R106, R116). -/
def RequestsStand (s : State) : Prop :=
  (∀ f, s.sel.forced = some f → ∀ c, f.target = some c →
      s.sel.lockout[c] = false ∧ (s.cfg.cands[c]).enabled = true)
    ∧ ∀ m, s.sel.manual = some m → s.sel.lockout[m.target] = false

/-- The FORCED request names candidate c. -/
def forcedNames (s : State) (c : Cand) : Prop := ∃ f, s.sel.forced = some f ∧ f.target = some c

/-- A monitor is ABSENT exactly while its candidate is disabled (R72), and a class other than 0 has an active monitor
(R88, R99). -/
def CandidatesGated (s : State) : Prop :=
  ∀ c : Cand, ((s.cands[c]).state = .absent ↔ (s.cfg.cands[c]).enabled = false)
    ∧ ((s.cands[c]).cls ≠ 0 → (s.cands[c]).state.isActive = true)

/-- The selected candidate is enabled, not locked out and active, and unless a FORCED request names it, it has a class
other than 0 and no wait (R108). -/
def SelectionFit (s : State) : Prop :=
  ∀ c : Cand, s.sel.selection = some c →
    (s.cfg.cands[c]).enabled = true ∧ s.sel.lockout[c] = false ∧ (s.cands[c]).state.isActive = true
      ∧ (forcedNames s c ∨ (s.cands[c]).cls ≠ 0 ∧ (s.cands[c]).wait = none)

/-- What the selector keeps through every step (R72, R106, R108, R116). -/
def SelectorSound (s : State) : Prop := RequestsStand s ∧ CandidatesGated s ∧ SelectionFit s

end Sys2Proof.Machine
end

