-- ==== Sys2Proof/Certificates/Slice0/Obligations.lean ====
section
/-! DEFINITION. The statements for the provers, and the words they are written in. -/

namespace Sys2Proof.Machine.Claim

/-! ### Answers (R153, R154, the response flags of 5.3) -/

/-- The response flags of a link. -/
def flags (s : State) (l : LinkId) : Octet :=
  (if (s.link l).queue = [] then 0 else 1) + (if (s.link l).overflow then 2 else 0)
    + (if s.commit = none then 0 else 4) + (if (s.link l).staging = [] then 0 else 8)

/-- A response as R153 builds it. -/
def reply (s : State) (l : LinkId) (kind tag : Octet) (status : Status) (body : List Octet) : Response :=
  { kind := kind ||| 0x80, tag := tag, status := status, generation := s.generation, flags := flags s l, body := body }

/-- A link that has made a response: it starts at once, or it waits behind the one being sent (R154). -/
def sent (k : Link) (r : Response) : Link :=
  if k.sending = none then { k with sending := some r } else { k with waiting := k.waiting ++ [r] }

/-- The state once link l has answered a request and is SERVING (R151). -/
def answered (l : LinkId) (kind tag : Octet) (status : Status) (body : List Octet) (s : State) : State :=
  s.setLink l { sent (s.link l) (reply s l kind tag status body) with state := .serving }

/-- The answer to a SWITCH request: it carries the selection as it then stands (R111). -/
def switched (l : LinkId) (tag : Octet) (status : Status) (s : State) : State :=
  answered l 6 tag status [match s.sel.selection with
    | none => 0
    | some c => BitVec.ofNat 8 (c.val + 1)] s

/-- The link, kind, tag, body and check of the request that a row of the table stands for (R155, R111). -/
def rowRequest : Instr → Option (LinkId × Request)
  | .identify l tag k => some (l, ⟨1, tag, [], k⟩)
  | .read l tag item a b sel k => some (l, ⟨2, tag, [item, a, b, sel], k⟩)
  | .stage l tag item a b v k => some (l, ⟨3, tag, item :: a :: b :: v, k⟩)
  | .commit l tag g k => some (l, ⟨4, tag, [g.extractLsb' 8 8, g.extractLsb' 0 8], k⟩)
  | .discard l tag k => some (l, ⟨5, tag, [], k⟩)
  | .lockout l tag c r k => some (l, ⟨6, tag, [1, c, r], k⟩)
  | .unlock l tag c r k => some (l, ⟨6, tag, [2, c, r], k⟩)
  | .force l tag c r k => some (l, ⟨6, tag, [3, c, r], k⟩)
  | .forceHoldover l tag c r k => some (l, ⟨6, tag, [4, c, r], k⟩)
  | .manual l tag c r k => some (l, ⟨6, tag, [5, c, r], k⟩)
  | .releaseForced l tag r k => some (l, ⟨6, tag, [6, 1, r], k⟩)
  | .releaseManual l tag r k => some (l, ⟨6, tag, [6, 2, r], k⟩)
  | .clearWait l tag c r k => some (l, ⟨6, tag, [7, c, r], k⟩)
  | .restart l tag t k => some (l, ⟨7, tag, [1, t], k⟩)
  | .recenter l tag t k => some (l, ⟨7, tag, [2, t], k⟩)
  | .capture l tag t k => some (l, ⟨8, tag, [t], k⟩)
  | .events l tag n k => some (l, ⟨9, tag, [n], k⟩)
  | .clearCounters l tag k => some (l, ⟨10, tag, [1], k⟩)
  | .clearResetCause l tag k => some (l, ⟨10, tag, [2], k⟩)
  | .mask l tag m k => some (l, ⟨11, tag, [m], k⟩)
  | .resetLink l tag k => some (l, ⟨12, tag, [1], k⟩)
  | .resetPart l tag k => some (l, ⟨12, tag, [2], k⟩)
  | .badKindRequest l tag kind body k => some (l, ⟨kind, tag, body, k⟩)
  | .trunkOctetArrival _ _ | .lossOfSignalExpiry _ | .exchangeFrameStart _ | .captureCompletion _ | .waitEnd _
  | .acquireTimeout | .slipWindowEnd _ | .stationInputEdge _ | .windowEnd _ | .activityTimerExpiry _
  | .commitApply _ | .interOctetTimerExpiry _ | .responseSent _ | .pinResetAssert | .pinResetRelease
  | .powerOnResetRelease | .requestLineOctetArrival _ _ => none

/-- What a list of commands leaves, taken one after another. -/
def runs : List Instr → State → Option State
  | [], s => some s
  | i :: is, s =>
    match exec i s with
    | .next t => runs is t
    | .fault _ | .refused _ => none

/-- An event with the epoch that a multiframe start begins (R166; assumption 5). -/
def raiseAt (e : Epoch) (kind : EventKind) (subject : Subject) (detail : Word16) (s : State) : State :=
  { raise kind subject detail { s with gen := { s.gen with epoch := e } } with gen := s.gen }

/-- The exchange frame start of s is due: its tick has come and the generator has not taken it (R51). -/
abbrev Due (s : State) : Prop := s.gen.tick = s.gen.frameStart + BitVec.ofNat 32 s.gen.frameLength

/-- The multiframe start of this instant is due, and its class evaluation still to evaluate candidate c, an enabled one (R87). -/
abbrev GradingToCome (s : State) (c : Cand) : Prop :=
  Due s ∧ s.gen.frameNumber = 15 ∧ (s.cfg.cands[c]).enabled = true

/-! ### Framers (R1, R3, R9, R12 to R17) -/

/-- What every arrival does to a framer that is not OFF. -/
def arrived (f : Framer) (now : Tick) (o : Octet) : Framer :=
  { f with losFrom := some now, los := false
           aisRun := if o = 0xFF then min 72 (f.aisRun + 1) else 0
           ais := decide (o = 0xFF) && (f.ais || decide (72 ≤ f.aisRun + 1)) }

/-- The set of alarm flags as TRUNK-ALARM reports it. -/
def alarmSet (f : Framer) : Nat := (if f.los then 1 else 0) + (if f.ais then 2 else 0) + (if f.rdi then 4 else 0)

/-- TRUNK-ALARM, where the alarm set has changed. -/
def alarmEvent (n : Trunk) (before after : Framer) (s : State) : State :=
  if alarmSet after = alarmSet before then s else raise .trunkAlarm (.trunk n) (BitVec.ofNat 16 (alarmSet after)) s

/-- A framer with its aligned state cleared (R17 step 3). -/
def cleared (f : Framer) (new : FramerState) : Framer :=
  { f with state := new, ql := 0, qlRun := 0, rdi := false, sourceId := none, keptHigh := none, prevId := none }

/-- The record of a frame with its 36 octets (R9). -/
def recordOf (octets : List Octet) (a : Machine.Alignment) (stamp : Tick) : FrameRecord :=
  { traffic := Vector.ofFn fun j => octets.getD (4 + j.val) 0
    ql := Fin.ofNat 16 ((octets.getD 2 0).toNat / 16), rdi := (octets.getD 2 0).getLsbD 3
    number := a.expected, errored := a.errored, stamp := stamp }

/-- A framer at the completion of a frame with its 36 octets: the two error counts, QL, RDI and source identifier. -/
def finished (f : Framer) (a : Machine.Alignment) (octets : List Octet) : Framer :=
  { (f.persistQl a.errored (Fin.ofNat 16 ((octets.getD 2 0).toNat / 16))).assemble a.expected a.errored
      (octets.getD 3 0) with
    state := .aligned { a with erroredRun := if a.errored then a.erroredRun + 1 else 0 }
    alignErrors := if a.errored then min 65535 (f.alignErrors + 1) else f.alignErrors
    rdi := if a.errored then f.rdi else (octets.getD 2 0).getLsbD 3 }

/-- The frame of trunk n handed to its store as record r, then its framer as F, then the exchange QL (R9, R146). -/
def completed (n : Trunk) (r : FrameRecord) (F : Framer) (s : State) : State :=
  let v := (storeArrival n r (s.setStore n { s.stores[n] with inProgress := [] })).setFramer n F
  v.setSynth { v.synth with exchangeQl := exchangeQlOf v }

/-- A store flushed to IDLE (R22). -/
def flushed (x : Store) : Store := { x with state := .idle, queue := [], inProgress := [], last := none }

/-- A framer f of trunk n leaves ALIGNED as F, in the order of R17: store, monitors, own state and TRUNK-STATE, then
TRUNK-ALARM where the set differs from that of `before`. -/
def left (n : Trunk) (F : Framer) (detail : Word16) (before : Framer) (s : State) : State :=
  let u := tellMonitors n (s.setStore n (flushed s.stores[n]))
  alarmEvent n before F (raise .trunkState (.trunk n) detail (u.setFramer n F))

/-! ### Stores (R25, R28, R29, R33, R34, R36, R38, R39) -/

/-- The accounting of a slip. -/
def slipped (x : Store) (note : SlipRecord) (threshold : Nat) : Store :=
  let count := min 255 (x.windowCount + 1)
  { x with
    repeats := if note.kind = .repeated then min 65535 (x.repeats + 1) else x.repeats
    deletes := if note.kind = .deleted then min 65535 (x.deletes + 1) else x.deletes
    history := (if x.history.length < 4 then x.history else x.history.tail) ++ [note]
    windowCount := count
    slipExcess := x.slipExcess || decide (threshold ≤ count) }

/-- SLIP, then SLIP-EXCESS where the slip has set the flag (R42). -/
def slipEvents (n : Trunk) (before after : Store) (detail : Word16) (s : State) : State :=
  let u := raise .slip (.trunk n) detail s
  if before.slipExcess = false ∧ after.slipExcess = true then raise .slipExcess (.trunk n) 1 u else u

/-- A wander window that has taken a transit delay. -/
def widened (w : Option (Nat × Nat)) (d : Nat) : Option (Nat × Nat) :=
  some (match w with
    | none => (d, d)
    | some (lo, hi) => (if d < lo then d else lo, if hi < d then d else hi))

/-- A store that has delivered its oldest record r fresh at a read tick. -/
def delivered (x : Store) (r : FrameRecord) (rest : List FrameRecord) (now : Tick) : Store :=
  let d := min 65535 (now - r.stamp).toNat
  { x with state := .run, queue := rest, last := some r, transit := some d, wanderA := widened x.wanderA d
           wanderB := widened x.wanderB d }

/-- A store's read (R26 to R29): what it delivers and what it then holds. -/
def read (x : Store) (now : Tick) (note : SlipRecord) (threshold : Nat) : Delivered × Store :=
  match x.state, x.queue, x.last with
  | .priming, r :: r' :: rest, _ => (.fresh r, delivered x r (r' :: rest) now)
  | .run, r :: rest, _ => (.fresh r, delivered x r rest now)
  | .run, [], some r => (.repeated r, slipped x note threshold)
  | .idle, _, _ | .priming, _, _ | .run, [], none => (.idle, x)

/-- What a read gives to a link with a capture pending on its store: the delivered frame and its transit delay (R44). -/
def copied (n : Trunk) (d : Delivered) (now : Tick) (k : Link) : Link :=
  match k.outstanding with
  | some { kind := kind, tag := tag, work := .capture m none } =>
    if m = n then
      { k with outstanding := some { kind := kind, tag := tag
                                     work := .capture n (some { delivered := d, transit := match d with
                                       | .fresh r => some (min 65535 (now - r.stamp).toNat)
                                       | .repeated _ | .idle => none }) } }
    else k
  | some { work := .capture _ (some _), .. } | some { work := .commit, .. } | none => k

/-- The 38 octets of a capture (R44). -/
def captureBody (r : CaptureRecord) : List Octet :=
  let facts := fun (k : Octet) (f : FrameRecord) =>
    [k, BitVec.ofNat 8 f.number.val,
      BitVec.ofNat 8 (16 * f.ql.val + (if f.rdi then 8 else 0) + if f.errored then 1 else 0)]
  let head : List Octet := match r.delivered with
    | .idle => [0, 0xFF, 0]
    | .fresh f => facts 1 f
    | .repeated f => facts 2 f
  let delay : List Octet := match r.transit with
    | none => [0, 0, 0]
    | some d => [1, BitVec.ofNat 8 (d / 256), BitVec.ofNat 8 d]
  let traffic : List Octet := match r.delivered with
    | .idle => List.replicate 32 0xFE
    | .fresh f | .repeated f => f.traffic.toList
  head ++ delay ++ traffic

/-! ### Lanes (R57, R58) -/

/-- The 36 octets of a lane frame. -/
def laneOctets (src : LaneSource) (pattern : Traffic) (handed : Vector Handover 48) (number : Fin 16) (ql : Ql) :
    List Octet :=
  let status := fun n : Nat => BitVec.ofNat 8 (n + ql.val)
  let head := fun (st from3 : Octet) (tr : Traffic) => 0xB4 :: BitVec.ofNat 8 (0xA0 + number.val) :: st :: from3 :: tr.toList
  match src with
  | .idle => head (status 0x40) 0xFF (Vector.replicate 32 0xFE)
  | .test => head (status 0x10) 0xFE pattern
  | .trunk t =>
    let alarm := if handed[t].alarm then 0x20 else 0
    match handed[t].delivered with
    | .fresh r => head (status (if r.rdi then 0x20 else alarm)) (BitVec.ofNat 8 t.val) r.traffic
    | .repeated r => head (status (0x80 + if r.rdi then 0x20 else alarm)) (BitVec.ofNat 8 t.val) r.traffic
    | .idle => head (status (0x40 + alarm)) (BitVec.ofNat 8 t.val) (Vector.replicate 32 0xFE)

/-! ### Monitors (R73, R74, R78, R99, R101, R107) -/

/-- A monitor that has taken a marker. -/
def marked (r : Runtime) (stamp now : Tick) : Runtime :=
  match r.state, r.latest with
  | .absent, _ => r
  | .inactive, _ =>
    { r with state := .measuring, latest := some stamp, windowStart := some stamp, interval := none, intervals := 0
             hits := 0, activityFrom := some now }
  | .measuring, m | .valid, m | .outOfRange, m =>
    let interval := match m with
      | some before => (stamp - before).toNat
      | none => 0
    let hit := match r.interval with
      | some p => decide (1 ≤ r.intervals ∧ (p + 16 < interval ∨ interval + 16 < p))
      | none => false
    { r with intervals := r.intervals + 1, hits := if hit then r.hits + 1 else r.hits, interval := some interval
             latest := some stamp, activityFrom := some now }

/-- A candidate that has lost activity; where the class evaluation of the instant is still to evaluate it, the class it had
is kept for that evaluation's CLASS event (assumption 26). -/
def lost (gradingToCome : Bool) (r : Runtime) : Runtime :=
  { r with state := .inactive, latest := none, interval := none, windowStart := none, intervals := 0, hits := 0
           activityFrom := none, cls := 0, loop := false, wait := if r.cls = 0 then r.wait else none
           lostCls := if gradingToCome ∧ r.cls ≠ 0 then some r.cls else r.lostCls }

/-- The active monitor of candidate c goes to INACTIVE: MONITOR, then CLASS where a class is lost and the class evaluation of
the instant is not still to evaluate c, then an evaluation where c was selected. -/
def wentInactive (c : Cand) (s : State) : State :=
  let r := s.cands[c]
  let u := raise .monitor (.candidate c) (BitVec.ofNat 16 (256 * r.state.number + 1))
    (s.setCand c (lost (decide (GradingToCome s c)) r))
  let v := if r.cls = 0 ∨ GradingToCome s c then u else raise .cls (.candidate c) (BitVec.ofNat 16 (256 * r.cls.val)) u
  if s.sel.selection = some c then evaluate .activityLoss none v else v

/-- The CLASS event that an activity loss of candidate c has left to the class evaluation is raised (R99, R101). -/
def lossTold (c : Cand) (s : State) : State :=
  match (s.cands[c]).lostCls with
  | none => s
  | some k => raise .cls (.candidate c) (BitVec.ofNat 16 (256 * k.val))
      (s.setCand c { s.cands[c] with lostCls := none })

/-- A candidate that starts again as if new (R80, R86). -/
def renewed (enabled : Bool) : Runtime :=
  { state := if enabled then .inactive else .absent, latest := none, interval := none, windowStart := none
    intervals := 0, hits := 0, deviation := none, lastHits := none, activityFrom := none, cls := 0, lostCls := none
    loop := false, wait := none, hasQualified := false, lockFail := false }

/-! ### The synthesizer (R129, R134 to R137) -/

def clamp (bound x : Int) : Int := if x < -bound then -bound else if bound < x then bound else x

/-- The raw phase of a sample. -/
def raw (start marker : Tick) : Nat := (start - marker).toNat % 3072

/-- The phase error of a sample: 0 at a build-out sample. -/
def phase (y : Synth) (raw : Nat) : Int :=
  let x : Int := raw - y.o
  if y.buildOut then 0 else if x < -1536 then x + 3072 else if 1535 < x then x - 3072 else x

/-! ### Fields of messages, and status records (R19, R35, R46, R47, R67, R85, R126, R148, R165) -/

/-- A one-octet field. -/
def one (n : Nat) : List Octet := [BitVec.ofNat 8 n]

/-- A 0-or-1 field. -/
def bit (b : Bool) : List Octet := [if b then 1 else 0]

/-- A 2-octet field, high octet first. -/
def two (n : Nat) : List Octet := [BitVec.ofNat 8 (n / 256), BitVec.ofNat 8 n]

/-- A 4-octet field, high octet first. -/
def four (n : Nat) : List Octet := two (n / 65536) ++ two n

/-- A signed 2-octet field. -/
def signed (x : Int) : List Octet := two (x % 65536).toNat

/-- A candidate, or 0 for none. -/
def candNumber : Option Cand → List Octet
  | none => [0]
  | some c => one (c.val + 1)

def linkNumber : LinkId → List Octet
  | .a => [0]
  | .b => [1]

/-! ### The check, responses and event records (5.3, R166) -/

/-- The CRC of 5.3, one message bit at a time, each octet's most significant bit first: the register begins at 0xFFFF, and a
bit that differs from the register's top bit brings in the polynomial x^16 + x^12 + x^5 + 1. -/
def crc (message : List Octet) : Word16 :=
  (message.flatMap fun o => (List.range 8).map o.getMsbD).foldl
    (fun reg b => (reg <<< 1) ^^^ (if reg.msb = b then 0 else 0x1021)) 0xFFFF

/-- The status codes. -/
def statusCode : Status → Octet
  | .ok => 0
  | .busy => 1
  | .badCheck => 2
  | .badKind => 3
  | .badLength => 4
  | .badItem => 5
  | .badValue => 6
  | .stale => 7
  | .empty => 8
  | .commitPending => 9
  | .conflict => 10
  | .outranked => 11
  | .lockedOut => 12
  | .notEnabled => 13
  | .notEligible => 14
  | .notStanding => 15
  | .invalidState => 16

/-- The 8 octets of an event record. -/
def eventOctets (e : Event) : List Octet :=
  (match e.kind with
    | .trunkState => 1
    | .trunkAlarm => 2
    | .slip => 3
    | .slipExcess => 4
    | .monitor => 5
    | .cls => 6
    | .loop => 7
    | .selection => 8
    | .requestDropped => 9
    | .synthState => 10
    | .holdoverValid => 11
    | .acquireTimeout => 12
    | .configCommitted => 13
    | .countersCleared => 14
    | .reset => 15)
  :: (match e.subject with
    | .none => [0xFF]
    | .trunk t => one t.val
    | .candidate c => one (c.val + 1)
    | .link l => linkNumber l)
  ++ four e.epoch.toNat ++ two e.detail.toNat

end Sys2Proof.Machine.Claim

open Sys2Proof Sys2Proof.Machine

/-! ### The queue of commands, resets -/

/-- A step with a command at the front of the queue is that command on the rest of the queue. -/
def Obligations.StepTakesTheFrontCommand : Prop :=
  ∀ (c : Instr) (q : List Instr) (s : State), step { s with pending := c :: q } = exec c { s with pending := q }

/-- With no command waiting, a running part queues its due steps in some order, or a tick passes (model's choice,
assumptions 1, 3 and 10; the count is R50's; the end of the instant, which the flag of an apply marks, is assumption 24). -/
def Obligations.IdleStepQueuesDueStepsOrTicks : Prop :=
  ∀ s : State, Running s → s.pending = [] →
    (dueCommands s = [] →
      step s = .next { s with gen := { s.gen with tick := s.gen.tick + 1 }
                              s1 := { high := false, wasHigh := s.s1.high }
                              s2 := { high := false, wasHigh := s.s2.high }
                              applied := false })
    ∧ (dueCommands s ≠ [] →
        ∃ q, q.Perm (dueCommands s) ∧ step s = .next { s with pending := q, free := s.free + 1 })

/-- The steps that are due at an instant: which commands they are, and when (R3, R40, R44, R51, R75, R76, R121, R152, R160,
R162). The model's own in this: a multiframe start at an instant is one that is due or that the generator has just taken, and
an apply takes it for the configuration store (assumptions 5 and 24); WINDOW_END and CAPTURE_COMPLETION are left waiting by
the step that brings them about (assumption 4); a wait keeps the epoch at which it began or was last counted, and WAIT_END is
the count-down at which it ends (assumption 16); an ACQUIRE_TIMEOUT is due where one has been handed over, or where the timer
stands at 1024 in a state that no run reaches (assumption 15); and the order operands are draws (assumption 3). -/
def Obligations.DueStepsOfAnInstant : Prop :=
  (∀ (s : State) (e : Epoch), s.multiframeAt = some e ↔
    (Claim.Due s ∧ s.gen.frameNumber = 15 ∧ e = s.gen.epoch + 1)
      ∨ (¬ Claim.Due s ∧ s.gen.tick = s.gen.frameStart ∧ s.gen.frameNumber = 0 ∧ e = s.gen.epoch))
  ∧ (∀ (s : State) (n : Trunk) (e : Epoch), slipWindowDue s n = some e ↔
      s.multiframeAt = some e ∧ e.toNat % 4096 = 0 ∧ (s.stores[n]).windowFrom ≠ e)
  ∧ (∀ (s : State) (l : LinkId), commitDue s = some l ↔
      ∃ e, s.multiframeAt = some e ∧ s.commit = some { link := l, start := e })
  ∧ ∀ (s : State) (i : Instr), i ∈ dueCommands s ↔
      ((∃ c : Cand, i = .windowEnd c ∧ (s.cands[c]).state.isActive = true ∧ 512 ≤ (s.cands[c]).intervals)
      ∨ (∃ l kind tag n r, i = .captureCompletion l
          ∧ (s.link l).outstanding = some { kind := kind, tag := tag, work := .capture n (some r) })
      ∨ (i = .exchangeFrameStart (Config.freeOrder s.free 0) ∧ Claim.Due s)
      ∨ (∃ n e, i = .slipWindowEnd n ∧ slipWindowDue s n = some e)
      ∨ (∃ l, i = .commitApply (Config.freeOrder s.free 1) ∧ commitDue s = some l)
      ∨ (i = .acquireTimeout ∧ (s.sel.timeouts ≠ []
          ∨ s.synth.state = .acquire ∧ s.sel.selection ≠ none ∧ 1024 ≤ s.synth.acquireTimer))
      ∨ (∃ c e n last, i = .waitEnd c ∧ s.multiframeAt = some e ∧ (s.cands[c]).wait = some (.definite n last)
          ∧ n ≤ 1 ∧ last ≠ e)
      ∨ (∃ c : Cand, ∃ b, i = .activityTimerExpiry c ∧ (s.cands[c]).activityFrom = some b
          ∧ 9216 ≤ (s.gen.tick - b).toNat)
      ∨ (∃ n : Trunk, ∃ b, i = .lossOfSignalExpiry n ∧ (s.framers[n]).losFrom = some b
          ∧ 6144 ≤ (s.gen.tick - b).toNat)
      ∨ ∃ l b, i = .interOctetTimerExpiry l ∧ (s.link l).octetFrom = some b ∧ 6292 ≤ (s.gen.tick - b).toNat)

/-- Every command ends in a next state, and none touches the queue of commands or the model's counter of draws. The model's
own in this: a command that names an event that is not due ends so (assumption 2), a part held by its reset pin takes its
commands so (assumption 11), and the queue and the draws are the model's (assumptions 1 and 3). -/
def Obligations.EveryCommandCompletes : Prop :=
  ∀ (c : Instr) (s : State), ∃ t, exec c s = .next t ∧ t.pending = s.pending ∧ t.free = s.free

/-- A running part takes a command after the window ends and capture completions that the steps before have brought
about, which are what the commands of those names leave, and these leave nothing over (the model's reading,
assumption 4). -/
def Obligations.LeftoverWorkIsTakenFirst : Prop :=
  ∀ s : State, Running s →
    Claim.runs ((List.finRange 8).map .windowEnd ++ [.captureCompletion .a, .captureCompletion .b]) s = some (runOn s)
      ∧ Takes (runOn s) ∧ ∀ c : Instr, runsOn c = true → exec c s = exec c (runOn s)

/-- PIN_RESET_ASSERT holds the part; a held part takes no command but a release and drives every output low (R54, 9.4).
That the assert changes the hold alone, and that a held part keeps its contents and lets no tick pass, is the model's
choice (assumption 11, unsafe). -/
def Obligations.HeldPartTakesNothing : Prop :=
  (∀ s : State, exec .pinResetAssert s = .next { s with pinHeld := true })
    ∧ ∀ s : State, s.pinHeld = true →
        (∀ c : Instr, isRelease c = false → exec c s = .next s)
          ∧ (s.pending = [] → step s = .next s)
          ∧ (∀ p h, highwayLevel s p h = false) ∧ highwayClock s = false ∧ frameMarker s = false
          ∧ multiframeMarker s = false ∧ (∀ q, timingOutput s q = false) ∧ ∀ l, attention s l = false

/-- A release of the power-on reset or of the pin reset starts the part from its defaults (R171 and the blocks' own
rules). That it does so whatever stood before, a held pin or no assert included, is the model's choice (assumption 11,
unsafe), and so is that the queue of commands and the draws go on (assumptions 1 and 3). -/
def Obligations.ReleaseStartsFromDefaults : Prop :=
  ∀ s : State, ∀ c cause, (c, cause) ∈ [(Instr.powerOnResetRelease, 1#8), (.pinResetRelease, 2#8)] →
    ∃ t, exec c s = .next t ∧ t.pending = s.pending ∧ t.free = s.free
      ∧ t.gen = { tick := 0, frameStart := 0, frameLength := 3072, frameNumber := 0, epoch := 0, frameQl := 14 }
      ∧ t.cause = cause ∧ t.pinHeld = false ∧ t.commit = none ∧ t.applied = false ∧ t.generation = 0
      ∧ (∀ l, (t.link l).state = .ready ∧ (t.link l).reception = [] ∧ (t.link l).octetFrom = none
          ∧ (t.link l).outstanding = none ∧ (t.link l).sending = none ∧ (t.link l).waiting = []
          ∧ (t.link l).staging = [] ∧ (t.link l).overflow = false ∧ (t.link l).mask = 0x3D
          ∧ (t.link l).capture = none ∧ attention t l = true
          ∧ (t.link l).queue = [{ kind := .reset, subject := .none, epoch := 0, detail := cause.setWidth 16 }])
      ∧ (∀ n : Trunk, (t.framers[n]).state = .off ∧ (t.framers[n]).alarms = 0 ∧ (t.framers[n]).ql = 0
          ∧ (t.framers[n]).sourceId = none ∧ (t.framers[n]).alignErrors = 0 ∧ (t.stores[n]).state = .idle
          ∧ (t.stores[n]).queue = [] ∧ (t.stores[n]).inProgress = [] ∧ (t.stores[n]).last = none
          ∧ (t.stores[n]).repeats = 0 ∧ (t.stores[n]).deletes = 0 ∧ (t.stores[n]).history = []
          ∧ (t.stores[n]).windowCount = 0 ∧ (t.stores[n]).slipExcess = false ∧ (t.stores[n]).slipRate = none
          ∧ (t.stores[n]).windowFrom = 0 ∧ (t.stores[n]).transit = none ∧ (t.stores[n]).wanderA = none ∧ (t.stores[n]).wanderB = none
          ∧ t.cfg.trunks[n] = { enabled := false, threshold := 4 })
      ∧ (∀ i : Lane, t.cfg.lanesA[i] = .trunk i ∧ t.cfg.lanesB[i] = .trunk i
          ∧ ∀ p, ((t.lanes p)[i]).octets
              = 0xB4 :: 0xA0 :: 0x4E :: BitVec.ofNat 8 i.val :: (Vector.replicate 32 0xFE#8).toList)
      ∧ t.out.squelched1 = false ∧ t.out.squelched2 = false
      ∧ (∀ d : Cand, t.cands[d] = Claim.renewed false
          ∧ t.cfg.cands[d] = { enabled := false, source := .none, priority := 1, assumedQl := 0 }
          ∧ t.sel.lockout[d] = false)
      ∧ t.sel.selection = none ∧ t.sel.forced = none ∧ t.sel.manual = none
      ∧ (∀ r : Fin 16, t.cfg.rules[r] = { enabled := false, join := false, field := .ql, op := .eq, value := 0
                                          mask := 0xFFFF, action := .cls 0 })
      ∧ (∀ k : Fin 4, t.cfg.loopGuard[k] = none)
      ∧ t.cfg.selector = { quality := true, revertive := false, wtr := 300, defaultClass := 4 }
      ∧ t.cfg.freqLimit = 24 ∧ t.cfg.synth = { band := 1, f0 := 0, holdoverQl := 12, freerunQl := 14 }
      ∧ t.cfg.squelch1 = 15 ∧ t.cfg.squelch2 = 15
      ∧ (∀ j : Fin 32, t.cfg.patternA[j] = 0 ∧ t.cfg.patternB[j] = 0)
      ∧ t.synth = { state := .freerun, f := 0, i := 0, h := 0, history := 0, o := 0, buildOut := false, r := 0
                    lockCount := 0, lossCount := 0, acquireTimer := 0, timeoutCount := 0, last := none
                    exchangeQl := 14 }

/-- The state after reset is that of a power-on release, with no command waiting, and it meets every invariant stated
below. -/
def Obligations.ResetStateMeetsTheInvariants : Prop :=
  exec .powerOnResetRelease State.reset = .next State.reset ∧ State.reset.pending = [] ∧ State.reset.cause = 1
    ∧ Takes State.reset ∧ QueuesFit State.reset ∧ SynthInRange State.reset ∧ SynthFollows State.reset
    ∧ StoresSound State.reset ∧ SelectorSound State.reset

/-! ### Trunk reception (chapter 1) -/

/-- An octet in NO-SIGNAL starts the hunt and is the first octet it examines; in OFF it is discarded; in HUNT it may complete
a candidate position; in CONFIRM it is retained while the checks hold, and a failed check rescans the retained octets (R1,
R4, R5, R6, R12, R13). That TRUNK-ALARM comes before TRUNK-STATE is the model's reading (assumption 13, unsafe). -/
def Obligations.OctetOutsideAlignment : Prop :=
  (∀ (n : Trunk) (o : Octet) (s : State), Takes s →
    ((s.framers[n]).state = .off → exec (.trunkOctetArrival n o) s = .next s)
    ∧ ((s.framers[n]).state = .noSignal →
        let f := s.framers[n]
        let F := { Claim.arrived f s.gen.tick o with state := .hunt (o == 0xB4) }
        exec (.trunkOctetArrival n o) s
          = .next (raise .trunkState (.trunk n) 0x0102 (Claim.alarmEvent n f F (s.setFramer n F))))
    ∧ ∀ afterB4, (s.framers[n]).state = .hunt afterB4 →
        let f := s.framers[n]
        let new := if afterB4 = true ∧ o.toNat / 16 = 10 then FramerState.confirm (Fin.ofNat 16 (o.toNat % 16)) [o]
          else .hunt (o == 0xB4)
        let F := { Claim.arrived f s.gen.tick o with state := new }
        exec (.trunkOctetArrival n o) s = .next (Claim.alarmEvent n f F (s.setFramer n F)))
  ∧ ∀ (n : Trunk) (o : Octet) (s : State) (e : Fin 16) (kept : List Octet), Takes s →
      (s.framers[n]).state = .confirm e kept →
      let f := s.framers[n]
      let g := Claim.arrived f s.gen.tick o
      let got := kept ++ [o]
      (checksHold e got = true → got.length < 73 →
        let F := { g with state := .confirm e got
                          frameStamp := if got.length = 72 then s.gen.tick else f.frameStamp }
        exec (.trunkOctetArrival n o) s = .next (Claim.alarmEvent n f F (s.setFramer n F)))
      ∧ (checksHold e got = false →
          let F := { g with state := rescan got }
          exec (.trunkOctetArrival n o) s = .next (Claim.alarmEvent n f F (s.setFramer n F)))

/-- What the checks ask of the octets retained from p + 1 on, and which position a rescan finds: the first whose own
checks hold as far as its octets are retained (R6). -/
def Obligations.RescanFindsTheFirstPosition : Prop :=
  (∀ (e : Fin 16) (os : List Octet), checksHold e os = true ↔
      ∀ j x, os[j]? = some x →
        (j = 35 ∨ j = 71 → x = 0xB4)
          ∧ (j = 36 → x = BitVec.ofNat 8 (0xA0 + (e.val + 1) % 16))
          ∧ (j = 72 → x = BitVec.ofNat 8 (0xA0 + (e.val + 2) % 16)))
    ∧ ∀ os : List Octet,
        let found := fun (i : Nat) (e : Fin 16) =>
          os[i]? = some 0xB4
            ∧ (∃ y, os[i + 1]? = some y ∧ y.toNat / 16 = 10 ∧ e = Fin.ofNat 16 (y.toNat % 16))
            ∧ checksHold e (os.drop (i + 1)) = true
        (∀ i e, found i e → (∀ j < i, ∀ d, ¬ found j d) → rescan os = .confirm e (os.drop (i + 1)))
          ∧ ((∀ i e, ¬ found i e) → rescan os = .hunt (os.getLast? == some 0xB4))

/-- The octet at p + 73 that passes the second check enters ALIGNED: framer, TRUNK-STATE, store, marker (R7, R21). The order
TRUNK-ALARM, TRUNK-STATE, then the marker's MONITOR is the model's reading (assumption 13, unsafe). -/
def Obligations.EntryToAligned : Prop :=
  ∀ (n : Trunk) (o : Octet) (s : State) (e : Fin 16) (kept : List Octet), Takes s →
    (s.framers[n]).state = .confirm e kept → kept.length = 72 → checksHold e (kept ++ [o]) = true →
    let f := s.framers[n]
    let F := { Claim.arrived f s.gen.tick o with
                 state := .aligned { expected := e + 2, errored := false, erroredRun := 0 } }
    let X := { s.stores[n] with state := .priming, queue := [], inProgress := [0xB4, o], last := none }
    exec (.trunkOctetArrival n o) s
      = .next (raiseMarker (.trunk n) f.frameStamp
          (raise .trunkState (.trunk n) 0x0304
            (Claim.alarmEvent n f F ((s.setFramer n F).setStore n X))))

/-- The octets at positions 0 to 34 of an aligned frame: arrival stamp and expected number, errored decision and marker,
frame in progress (R8, R10, R20). That the expected number advances at position 0 and that an errored frame is counted at
its completion alone are the model's readings (assumptions 12 and 23). -/
def Obligations.OctetsOfAnAlignedFrame : Prop :=
  ∀ (n : Trunk) (o : Octet) (s : State) (a : Machine.Alignment), Takes s → (s.framers[n]).state = .aligned a →
    let f := s.framers[n]
    let g := Claim.arrived f s.gen.tick o
    let X := { s.stores[n] with inProgress := (s.stores[n]).inProgress ++ [o] }
    ((s.stores[n]).inProgress = [] →
      let F := { g with state := .aligned { a with expected := a.expected + 1 }, frameStamp := s.gen.tick }
      exec (.trunkOctetArrival n o) s = .next (Claim.alarmEvent n f F ((s.setFramer n F).setStore n X)))
    ∧ (∀ first, (s.stores[n]).inProgress = [first] →
        let bad := ¬ (first = 0xB4 ∧ o = BitVec.ofNat 8 (0xA0 + a.expected.val))
        let F := { g with state := .aligned { a with errored := decide bad } }
        exec (.trunkOctetArrival n o) s
          = .next (raiseMarker (.trunk n) f.frameStamp
              (Claim.alarmEvent n f F ((s.setFramer n F).setStore n X))))
    ∧ (2 ≤ (s.stores[n]).inProgress.length → (s.stores[n]).inProgress.length < 35 →
        exec (.trunkOctetArrival n o) s = .next (Claim.alarmEvent n f g ((s.setFramer n g).setStore n X)))

/-- The octet at position 35 of a frame that does not lose alignment: the record goes to the store as an arrival, the
framer counts the frame and takes its own updates, the exchange QL is computed anew, and nothing else changes; TRUNK-ALARM
comes once, before the record, or after it where RDI moves (R8, R9, R12, R13, R14; the place of TRUNK-ALARM and the
counting at the completion are the model's readings, assumptions 13 and 23). -/
def Obligations.FrameCompletion : Prop :=
  ∀ (n : Trunk) (o : Octet) (s : State) (a : Machine.Alignment), Takes s → (s.framers[n]).state = .aligned a →
    (s.stores[n]).inProgress.length = 35 → ¬ (a.errored = true ∧ 2 ≤ a.erroredRun) →
    let f := s.framers[n]
    let g := Claim.arrived f s.gen.tick o
    let got := (s.stores[n]).inProgress ++ [o]
    let r := Claim.recordOf got a f.frameStamp
    let F := Claim.finished g a got
    exec (.trunkOctetArrival n o) s
      = .next (if F.rdi = f.rdi then Claim.completed n r F (Claim.alarmEvent n f g (s.setFramer n g))
          else Claim.alarmEvent n f F (Claim.completed n r F (s.setFramer n g)))

/-- The persisted QL and the source identifier at a frame completion (R15, R16). -/
def Obligations.PersistedQlAndSourceIdentifier : Prop :=
  (∀ (f : Framer) (q : Ql),
    f.persistQl true q = { f with qlRun := 0 }
    ∧ (let n := if q = f.qlLast then min 3 (f.qlRun + 1) else 1
       f.persistQl false q = { f with qlLast := q, qlRun := n, ql := if n = 3 then q else f.ql }))
  ∧ ∀ (f : Framer) (o : Octet),
      (∀ number e, number ≠ 0 → number ≠ 1 → f.assemble number e o = f)
      ∧ f.assemble 0 false o = { f with keptHigh := some o }
      ∧ f.assemble 0 true o = { f with keptHigh := none }
      ∧ f.assemble 1 true o = { f with keptHigh := none, prevId := none }
      ∧ (f.keptHigh = none → f.assemble 1 false o = { f with keptHigh := none, prevId := none })
      ∧ ∀ hi, f.keptHigh = some hi →
          let v : Word16 := hi ++ o
          ∃ id, f.assemble 1 false o = { f with keptHigh := none, prevId := some v, sourceId := id }
            ∧ (f.sourceId = some v → id = some v)
            ∧ (∀ w, f.sourceId = some w → w ≠ v → id = none)
            ∧ (f.sourceId = none → f.prevId = some v → id = some v)
            ∧ (f.sourceId = none → f.prevId ≠ some v → id = none)

/-- The errored frame that brings the consecutive-errored count to 3 is handed over as any frame is, and then the framer
leaves ALIGNED for HUNT: store, monitors, own state, TRUNK-STATE 0x0402, and TRUNK-ALARM where RDI was set (R9, R11, R17;
assumptions 13 and 23 for the place of TRUNK-ALARM and of the counting). -/
def Obligations.LossOfAlignment : Prop :=
  ∀ (n : Trunk) (o : Octet) (s : State) (a : Machine.Alignment), Takes s → (s.framers[n]).state = .aligned a →
    (s.stores[n]).inProgress.length = 35 → a.errored = true → 2 ≤ a.erroredRun →
    let f := s.framers[n]
    let g := Claim.arrived f s.gen.tick o
    let got := (s.stores[n]).inProgress ++ [o]
    let r := Claim.recordOf got a f.frameStamp
    let F := Claim.finished g a got
    let out := Claim.left n (Claim.cleared F (.hunt false)) 0x0402
    exec (.trunkOctetArrival n o) s
      = .next (if f.rdi = true then out f (Claim.completed n r F (s.setFramer n g))
          else out g (Claim.completed n r F (Claim.alarmEvent n f g (s.setFramer n g))))

/-- LOSS_OF_SIGNAL_EXPIRY: nothing while the timer has not run 6144 ticks (assumption 2); LOS, AIS and the framer state
at its expiry (R3, R13, R17; the order of the two events outside ALIGNED is the model's reading, assumption 13). -/
def Obligations.LossOfSignalExpiry : Prop :=
  ∀ (n : Trunk) (s : State), Takes s →
    let f := s.framers[n]
    ((∀ b, f.losFrom = some b → (s.gen.tick - b).toNat < 6144) → exec (.lossOfSignalExpiry n) s = .next s)
    ∧ ∀ b, f.losFrom = some b → 6144 ≤ (s.gen.tick - b).toNat →
        let F := { f with los := true, ais := false, aisRun := 0, losFrom := none }
        let N := { F with state := .noSignal }
        (f.state = .noSignal → exec (.lossOfSignalExpiry n) s = .next (Claim.alarmEvent n f F (s.setFramer n F)))
        ∧ (∀ w, f.state = .hunt w →
            exec (.lossOfSignalExpiry n) s
              = .next (Claim.alarmEvent n f N (raise .trunkState (.trunk n) 0x0201 (s.setFramer n N))))
        ∧ (∀ e os, f.state = .confirm e os →
            exec (.lossOfSignalExpiry n) s
              = .next (Claim.alarmEvent n f N (raise .trunkState (.trunk n) 0x0301 (s.setFramer n N))))
        ∧ (∀ a, f.state = .aligned a →
            exec (.lossOfSignalExpiry n) s
              = .next (Claim.left n (Claim.cleared F .noSignal) 0x0401 f (s.setFramer n F)))

/-- TRUNK RESTART on a READY link (R18). -/
def Obligations.RestartOfATrunk : Prop :=
  ∀ (l : LinkId) (tag trunk : Octet) (check : Word16) (s : State), Ready s l → check = checkFor 7 tag [1, trunk] →
    (48 ≤ trunk.toNat → exec (.restart l tag trunk check) s = .next (Claim.answered l 7 tag .badValue [] s))
    ∧ ∀ n : Trunk, trunk.toNat = n.val →
        let f := s.framers[n]
        let H := { f with state := .hunt false }
        ((s.cfg.trunks[n]).enabled = false →
          exec (.restart l tag trunk check) s = .next (Claim.answered l 7 tag .invalidState [] s))
        ∧ ((s.cfg.trunks[n]).enabled = true →
            (f.state = .noSignal → exec (.restart l tag trunk check) s = .next (Claim.answered l 7 tag .ok [] s))
            ∧ ((∃ w, f.state = .hunt w) ∨ (∃ e os, f.state = .confirm e os) →
                exec (.restart l tag trunk check) s = .next (Claim.answered l 7 tag .ok [] (s.setFramer n H)))
            ∧ (∀ a, f.state = .aligned a →
                exec (.restart l tag trunk check) s
                  = .next (Claim.answered l 7 tag .ok [] (Claim.left n (Claim.cleared f (.hunt false)) 0x0402 f s))))

/-- A framer leaving ALIGNED makes INACTIVE each active monitor on its trunk: MONITOR, class 0 with CLASS, LOOP clear, and an
evaluation where the candidate was selected; the selection and the synthesizer stand where it is none of them (R17, R77, R78,
R99, R107). That at the instant of a multiframe start whose class evaluation is still to come the CLASS event is left to that
evaluation is the model's reading of R99 beside R101 (assumption 26), and that several active monitors on one trunk are told
in number order its choice (assumption 28). -/
def Obligations.MonitorsAreToldOfAlignmentLoss : Prop :=
  ∀ (n : Trunk) (s : State),
    let t := tellMonitors n s
    let hit := fun c : Cand => (s.cfg.cands[c]).source = .trunk n ∧ (s.cands[c]).state.isActive = true
    t = (List.finRange 8).foldl (fun u c => if hit c then Claim.wentInactive c u else u) s
      ∧ (∀ c : Cand, t.cands[c] = if hit c then Claim.lost (decide (Claim.GradingToCome s c)) s.cands[c] else s.cands[c])
      ∧ ((∀ c, s.sel.selection = some c → ¬ hit c) → t.sel = s.sel ∧ t.synth = s.synth)
      ∧ Heard s.linkA t.linkA ∧ Heard s.linkB t.linkB
      ∧ t = { s with cands := t.cands, sel := t.sel, synth := t.synth, linkA := t.linkA, linkB := t.linkB }

/-! ### Elastic stores (chapter 2) -/

/-- A completed frame record arrives at a store: PRIMING, RUN with room, RUN with four held (R23, R24, R25, R42). -/
def Obligations.ArrivalAtAStore : Prop :=
  ∀ (n : Trunk) (r : FrameRecord) (s : State),
    let x := s.stores[n]
    let room := { x with queue := x.queue ++ [r] }
    let full := { x with queue := x.queue.tail ++ [r] }
    (x.state = .priming → storeArrival n r s = s.setStore n (if x.queue.length < 4 then room else full))
    ∧ (x.state = .run → x.queue.length < 4 → storeArrival n r s = s.setStore n room)
    ∧ (x.state = .run → x.queue.length = 4 →
        let X := Claim.slipped full { kind := .deleted, epoch := s.gen.epoch, frame := s.gen.frameNumber, held := 4 }
          (s.cfg.trunks[n]).threshold
        storeArrival n r s = Claim.slipEvents n x X 0x0204 (s.setStore n X))

/-- R28: a read in RUN with one or more complete frames held, at an exchange frame start. -/
def Obligations.FreshReadInRun : Prop :=
  ∀ (ord : Nat) (s : State) (n : Trunk) (r : FrameRecord) (rest : List FrameRecord), Takes s → Claim.Due s →
    (s.stores[n]).state = .run → (s.stores[n]).queue = r :: rest →
    let x := s.stores[n]
    let d := min 65535 (s.gen.tick - r.stamp).toNat
    ∃ t, exec (.exchangeFrameStart ord) s = .next t
      ∧ (t.out.handed[n]).delivered = .fresh r
      ∧ t.stores[n] = { x with state := .run, queue := rest, last := some r, transit := some d
                               wanderA := Claim.widened x.wanderA d, wanderB := Claim.widened x.wanderB d }

/-- The read of a store: its delivery, its slip with SLIP and SLIP-EXCESS, the hand-over to the lanes with its framer's LOS or
AIS, and the hand-over to the captures pending on it; and at an exchange frame start every store makes its read, and no store
and no framer changes otherwise (R26 to R29, R33, R34, R36, R38, R39, R42, R44, R58). -/
def Obligations.StoresReadAtAFrameStart : Prop :=
  (∀ (n : Trunk) (s : State),
    let x := s.stores[n]
    let note : SlipRecord := { kind := .repeated, epoch := s.gen.epoch, frame := s.gen.frameNumber, held := 0 }
    let got := Claim.read x s.gen.tick note (s.cfg.trunks[n]).threshold
    let u := if x.state = .run ∧ x.queue = [] ∧ x.last ≠ none then
        Claim.slipEvents n x got.2 0x0100 (s.setStore n got.2) else s.setStore n got.2
    let given : Handover := { delivered := got.1, alarm := (s.framers[n]).los || (s.framers[n]).ais }
    readStore n s = { u with
      out := { u.out with handed := u.out.handed.set n given }
      linkA := Claim.copied n got.1 s.gen.tick u.linkA
      linkB := Claim.copied n got.1 s.gen.tick u.linkB })
  ∧ ∀ (ord : Nat) (s : State), Takes s → Claim.Due s →
    ∃ t, exec (.exchangeFrameStart ord) s = .next t ∧ t.framers = s.framers
      ∧ (∀ n : Trunk,
          let note : SlipRecord := { kind := .repeated, epoch := t.gen.epoch, frame := t.gen.frameNumber, held := 0 }
          let got := Claim.read s.stores[n] s.gen.tick note (s.cfg.trunks[n]).threshold
          t.stores[n] = got.2
            ∧ t.out.handed[n] = { delivered := got.1, alarm := (s.framers[n]).los || (s.framers[n]).ais })
      ∧ ∀ l kind tag n, (s.link l).outstanding = some { kind := kind, tag := tag, work := .capture n none } →
          (t.link l).outstanding = (Claim.copied n (t.out.handed[n]).delivered s.gen.tick (s.link l)).outstanding

/-- TRUNK RECENTER and CLEAR COUNTERS on a READY link (R19, R32, R37, R38). -/
def Obligations.RecenterAndClearCounters : Prop :=
  (∀ (l : LinkId) (tag trunk : Octet) (check : Word16) (s : State), Ready s l → check = checkFor 7 tag [2, trunk] →
    (48 ≤ trunk.toNat → exec (.recenter l tag trunk check) s = .next (Claim.answered l 7 tag .badValue [] s))
    ∧ ∀ n : Trunk, trunk.toNat = n.val →
        let x := s.stores[n]
        let note : SlipRecord := { kind := .recenter, epoch := s.gen.epoch, frame := s.gen.frameNumber
                                   held := x.queue.length }
        let X := { x with state := .priming, queue := [], last := none
                          history := (if x.history.length < 4 then x.history else x.history.tail) ++ [note] }
        (x.state ≠ .run →
          exec (.recenter l tag trunk check) s = .next (Claim.answered l 7 tag .invalidState [] s))
        ∧ (x.state = .run →
            exec (.recenter l tag trunk check) s = .next (Claim.answered l 7 tag .ok [] (s.setStore n X))))
  ∧ ∀ (l : LinkId) (tag : Octet) (check : Word16) (s : State), Ready s l → check = checkFor 10 tag [1] →
      ∃ u : State, u = { s with stores := u.stores, framers := u.framers }
        ∧ (∀ n : Trunk, u.stores[n] = { s.stores[n] with repeats := 0, deletes := 0 }
            ∧ u.framers[n] = { s.framers[n] with alignErrors := 0 })
        ∧ exec (.clearCounters l tag check) s
            = .next (Claim.answered l 10 tag .ok [] (raise .countersCleared (.link l) 0 u))

/-- CAPTURE on a READY link, and CAPTURE_COMPLETION of what a read has handed over: the record, the 38-octet body and
the response (R43, R44, R151). That CAPTURE_COMPLETION without a capture handed over leaves the state as it is is the
model's choice (assumption 2), and so is the errored bit 0 of an IDLE capture (assumption 25). -/
def Obligations.CaptureAndItsCompletion : Prop :=
  (∀ (l : LinkId) (tag trunk : Octet) (check : Word16) (s : State), Ready s l → check = checkFor 8 tag [trunk] →
    (48 ≤ trunk.toNat → exec (.capture l tag trunk check) s = .next (Claim.answered l 8 tag .badValue [] s))
    ∧ ∀ n : Trunk, trunk.toNat = n.val →
        exec (.capture l tag trunk check) s
          = .next (s.setLink l { s.link l with state := .waiting
                                               outstanding := some { kind := 8, tag := tag, work := .capture n none } }))
  ∧ ∀ (l : LinkId) (s : State), Running s →
      (handedCapture (s.link l) = none → exec (.captureCompletion l) s = .next s)
      ∧ ∀ kind tag n r, (s.link l).outstanding = some { kind := kind, tag := tag, work := .capture n (some r) } →
          let k := Claim.sent (s.link l) (Claim.reply s l kind tag .ok (Claim.captureBody r))
          exec (.captureCompletion l) s
            = .next (s.setLink l { k with state := .serving, outstanding := none, capture := some r })

/-- SLIP_WINDOW_END of a store, where its window end is due and where it is not: SLIP-RATE, SLIP-EXCESS with its event, the
count, and the window that begins (R40, R41, R42; assumptions 2 and 5 for when it is due and for the event's epoch). -/
def Obligations.SlipWindowEnd : Prop :=
  ∀ (n : Trunk) (s : State), Takes s →
    (slipWindowDue s n = none → exec (.slipWindowEnd n) s = .next s)
    ∧ ∀ e, slipWindowDue s n = some e →
        let x := s.stores[n]
        let k := s.cfg.trunks[n]
        let X := if k.enabled then
            { x with slipRate := if x.windowComplete then some x.windowCount else x.slipRate
                     slipExcess := if x.windowCount < k.threshold then false else x.slipExcess
                     windowCount := 0, windowComplete := true, windowFrom := e }
          else { x with windowComplete := false, windowFrom := e }
        exec (.slipWindowEnd n) s
          = .next (if k.enabled = true ∧ x.slipExcess = true ∧ x.windowCount < k.threshold then
              Claim.raiseAt e .slipExcess (.trunk n) 0 (s.setStore n X) else s.setStore n X)

/-! ### Exchange timing and outputs (chapter 3) -/

/-- EXCHANGE_FRAME_START: nothing before its tick (assumption 2); at its tick the generator starts the next frame
(R51, R52), and the trunks, the configuration and the links' own work stand. At a start that begins no multiframe, the frame
length, the residue and the frame QL, and what such a start leaves as it was (R51, R53, R130). -/
def Obligations.FrameStartAdvancesTheGenerator : Prop :=
  (∀ (ord : Nat) (s : State), Takes s →
    (¬ Claim.Due s → exec (.exchangeFrameStart ord) s = .next s)
    ∧ (Claim.Due s →
        ∃ t, exec (.exchangeFrameStart ord) s = .next t
          ∧ t.gen.tick = s.gen.tick ∧ t.gen.frameStart = s.gen.tick ∧ t.gen.frameNumber = s.gen.frameNumber + 1
          ∧ t.gen.epoch = (if s.gen.frameNumber = 15 then s.gen.epoch + 1 else s.gen.epoch)
          ∧ t.framers = s.framers ∧ t.cfg = s.cfg ∧ t.generation = s.generation ∧ t.commit = s.commit
          ∧ t.applied = s.applied ∧ t.cause = s.cause ∧ t.pinHeld = false ∧ t.s1 = s.s1 ∧ t.s2 = s.s2
          ∧ ∀ l, (t.link l).state = (s.link l).state ∧ (t.link l).sending = (s.link l).sending
              ∧ (t.link l).waiting = (s.link l).waiting ∧ (t.link l).staging = (s.link l).staging
              ∧ (t.link l).mask = (s.link l).mask ∧ (t.link l).capture = (s.link l).capture))
  ∧ ∀ (ord : Nat) (s : State), Takes s → Claim.Due s → s.gen.frameNumber ≠ 15 →
    let sum : Int := s.synth.r + s.synth.f
    let q : Int := sum / 65536
    ∃ t, exec (.exchangeFrameStart ord) s = .next t
      ∧ t.gen.frameLength = (3072 - q).toNat
      ∧ t.synth = { s.synth with r := (sum - 65536 * q).toNat }
      ∧ t.gen.frameQl = s.synth.exchangeQl
      ∧ t.cands = s.cands ∧ t.sel = s.sel
      ∧ (InRange s.synth.f → s.synth.r < 65536 →
          (q = -1 ∧ t.gen.frameLength = 3073 ∨ q = 0 ∧ t.gen.frameLength = 3072
            ∨ q = 1 ∧ t.gen.frameLength = 3071) ∧ t.synth.r < 65536)

/-- An exchange frame start is the generator's own step, then the work of every block, each once, in an order with the
frame length before the phase sample, then the lanes and the squelches; every such order is that of some operand; and what
each block's work is (R26, R51, R52, R53, R87, R130, R134). The model's own in this: that the order is free otherwise
(assumption 3), that a frame start takes an acquire timeout handed over beside the row ACQUIRE_TIMEOUT (assumption 15), and
that it takes the whole count-down of waits where no WAIT_END has (assumption 16). -/
def Obligations.FrameStartTakesEveryBlocksWork : Prop :=
  (∀ s : State, Takes s → Claim.Due s →
    let started := s.setGen { s.gen with
      frameStart := s.gen.tick, frameNumber := s.gen.frameNumber + 1
      epoch := if s.gen.frameNumber = 15 then s.gen.epoch + 1 else s.gen.epoch }
    let work := (if s.gen.frameNumber = 15 then
        [FrameUnit.length, .frameQl, .classes, .waits, .timeout, .sample] else [.length, .frameQl])
      ++ (List.finRange 48).map .read
    let order := fun us : List FrameUnit =>
      us.Perm work ∧ (s.gen.frameNumber = 15 → us.idxOf .length < us.idxOf .sample)
    let taken := fun (ord : Nat) (us : List FrameUnit) =>
      let v := us.foldl (fun u x => x.take u) started
      ∃ t, exec (.exchangeFrameStart ord) s = .next t ∧ t.out.handed = v.out.handed ∧ t = { v with out := t.out }
    (∀ ord : Nat, ∃ us, order us ∧ taken ord us) ∧ ∀ us, order us → ∃ ord : Nat, taken ord us)
  ∧ ∀ s : State,
      let sum : Int := s.synth.r + s.synth.f
      let q : Int := sum / 65536
      FrameUnit.length.take s = { s with synth := { s.synth with r := (sum - 65536 * q).toNat }
                                         gen := { s.gen with frameLength := (3072 - q).toNat } }
        ∧ FrameUnit.frameQl.take s = s.setGen { s.gen with frameQl := s.synth.exchangeQl }
        ∧ FrameUnit.classes.take s = classEvaluation s
        ∧ FrameUnit.waits.take s = countWaitsAt s.gen.epoch s
        ∧ FrameUnit.timeout.take s = takeHandedTimeout s
        ∧ FrameUnit.sample.take s = phaseSample s
        ∧ ∀ n, (FrameUnit.read n).take s = readStore n s

/-- At an exchange frame start each plane fixes its 48 lane frames from its map, its pattern, what the stores handed over
and the frame QL, and each timing output decides its squelch; the level it then drives (R57, R58, R64, R65). -/
def Obligations.LanesAndSquelchOfTheNewFrame : Prop :=
  (∀ (ord : Nat) (s : State), Takes s → Claim.Due s →
    ∃ t, exec (.exchangeFrameStart ord) s = .next t
      ∧ ∀ i : Lane,
          (t.out.lanesA[i]).octets
              = Claim.laneOctets s.cfg.lanesA[i] s.cfg.patternA t.out.handed t.gen.frameNumber t.gen.frameQl
            ∧ (t.out.lanesB[i]).octets
              = Claim.laneOctets s.cfg.lanesB[i] s.cfg.patternB t.out.handed t.gen.frameNumber t.gen.frameQl)
  ∧ (∀ (ord : Nat) (s : State), Takes s → Claim.Due s →
      ∃ t, exec (.exchangeFrameStart ord) s = .next t
        ∧ (t.out.squelched1 = true ↔ t.gen.frameQl = 0 ∨ s.cfg.squelch1 < t.gen.frameQl)
        ∧ (t.out.squelched2 = true ↔ t.gen.frameQl = 0 ∨ s.cfg.squelch2 < t.gen.frameQl))
    ∧ ∀ (s : State) (q : Bool), Running s →
        (timingOutput s q = true ↔ q = false ∧ (s.gen.tick - s.gen.frameStart).toNat < 256)

/-- The slots of a highway, its bit periods of 1, 1 and 2 ticks with the last period running to the end of the frame, the
most significant bit first, the highway clock, and the plane markers (R61, R62). That the clock is high in the first tick of
each bit period is the model's choice of its form (assumption 18). -/
def Obligations.HighwaysAndMarkers : Prop :=
  (∀ (s : State) (p : Plane) (h : Fin 6) (j : Nat) (i : Lane), j < 288 → i.val = 8 * h.val + j % 8 →
      some (highwaySlot s p h j) = (((s.lanes p)[i]).octets)[j / 8]?)
    ∧ (∀ k o : Nat, k < 2303 →
        (bitPeriod o = k ↔
          4 * (k / 3) + k % 3 ≤ o ∧ o < 4 * (k / 3) + k % 3 + if k % 3 = 2 then 2 else 1))
    ∧ (∀ o : Nat, bitPeriod o = 2303 ↔ 3070 ≤ o)
    ∧ ∀ s : State, Running s →
        let b := bitPeriod (s.gen.tick - s.gen.frameStart).toNat
        (∀ p h, highwayLevel s p h = (highwaySlot s p h (b / 8)).getMsbD (b % 8))
          ∧ (highwayClock s = true ↔ ∃ k < 2304, (s.gen.tick - s.gen.frameStart).toNat = 4 * (k / 3) + k % 3)
          ∧ (frameMarker s = true ↔ b < 8)
          ∧ (multiframeMarker s = true ↔ b < 8 ∧ s.gen.frameNumber = 0)

/-! ### Candidates and monitors (chapter 4) -/

/-- A marker reaches the monitor of each enabled candidate whose source names it, and nothing else but the queues; a rising
edge of a station input raises a marker stamped with its tick, and without a low level at this tick and the tick before
there is no edge (R69, R71, R73, R74, R84; assumption 10). -/
def Obligations.MarkersAndStationEdges : Prop :=
  ((∀ (src : Source) (stamp : Tick) (s : State),
    let t := raiseMarker src stamp s
    let hit := fun c : Cand => (s.cfg.cands[c]).enabled = true ∧ (s.cfg.cands[c]).source = src
    (∀ c : Cand, t.cands[c] = if hit c then Claim.marked s.cands[c] stamp s.gen.tick else s.cands[c])
      ∧ Heard s.linkA t.linkA ∧ Heard s.linkB t.linkB
      ∧ t = { s with cands := t.cands, linkA := t.linkA, linkB := t.linkB }
      ∧ ((∀ c, hit c → (s.cands[c]).state ≠ .inactive) → t.linkA = s.linkA ∧ t.linkB = s.linkB))
  ∧ ∀ (c : Cand) (stamp : Tick) (s : State), (s.cands[c]).state = .inactive →
      takeMarker c stamp s
        = raise .monitor (.candidate c) 0x0102 (s.setCand c (Claim.marked s.cands[c] stamp s.gen.tick)))
  ∧ ∀ (i : Station) (s : State), Takes s →
      ((s.station i).high = true ∨ (s.station i).wasHigh = true → exec (.stationInputEdge i) s = .next s)
      ∧ ((s.station i).high = false → (s.station i).wasHigh = false →
          exec (.stationInputEdge i) s
            = .next (raiseMarker (.station i) s.gen.tick (s.setStation i { high := true, wasHigh := false })))

/-- WINDOW_END: nothing before the 512th interval; at it, D, the verdict and the next window (R75, R84). ACTIVITY_TIMER_EXPIRY:
nothing before 9216 ticks; then MONITOR, class 0 with CLASS, and an evaluation where the candidate was selected (R76, R78,
R99, R107). That each does nothing before its time is assumption 2; that an expiry taken ahead of the class evaluation of its
instant leaves the CLASS event to that evaluation is the model's reading of R99 beside R101 (assumption 26). -/
def Obligations.WindowEndAndActivityExpiry : Prop :=
  (∀ (c : Cand) (s : State), Running s →
    let r := s.cands[c]
    (r.state.isActive = false ∨ r.intervals < 512 → exec (.windowEnd c) s = .next s)
    ∧ ∀ w m, r.state.isActive = true → 512 ≤ r.intervals → r.windowStart = some w → r.latest = some m →
        let d : Int := (m - w).toNat - 1572864
        let new := if d ≤ s.cfg.freqLimit ∧ -s.cfg.freqLimit ≤ d ∧ r.hits < 4 then MonitorState.valid else .outOfRange
        let R := { r with state := new, deviation := some d, lastHits := some r.hits, windowStart := some m
                          intervals := 0, hits := 0 }
        exec (.windowEnd c) s
          = .next (if new = r.state then s.setCand c R
              else raise .monitor (.candidate c) (BitVec.ofNat 16 (256 * r.state.number + new.number))
                (s.setCand c R)))
  ∧ ∀ (c : Cand) (s : State), Takes s →
    let r := s.cands[c]
    (r.state.isActive = false ∨ (∀ b, r.activityFrom = some b → (s.gen.tick - b).toNat < 9216) →
      exec (.activityTimerExpiry c) s = .next s)
    ∧ ∀ b, r.state.isActive = true → r.activityFrom = some b → 9216 ≤ (s.gen.tick - b).toNat →
        exec (.activityTimerExpiry c) s = .next (Claim.wentInactive c s)

/-! ### Qualification (chapter 5) -/

/-- The class evaluation, candidates 1 to 8 graded in number order and then one evaluation of the selection for classes; the
grading of one candidate: the CLASS event of an activity loss taken before it at the same instant, then monitor gate, loop
guard, rule list; and what a class change does: CLASS, has-qualified and the wait; no change of class does nothing (R87, R88,
R90, R97, R98, R101, R107, R120; the reading of R101 beside R99 is assumption 26). -/
def Obligations.GradingAndClassChange : Prop :=
  (∀ s : State, classEvaluation s
    = evaluate .classes none (gradeCandidate 7 (gradeCandidate 6 (gradeCandidate 5 (gradeCandidate 4
        (gradeCandidate 3 (gradeCandidate 2 (gradeCandidate 1 (gradeCandidate 0 s)))))))))
  ∧ (∀ (c : Cand) (s : State),
    let u := Claim.lossTold c s
    let loop := fun b => u.setCand c { u.cands[c] with loop := b }
    let guarded := fun v => ∃ n : Trunk, (s.cfg.cands[c]).source = .trunk n ∧ (s.framers[n]).sourceId = some v
      ∧ ∃ k : Fin 4, s.cfg.loopGuard[k] = some v
    ((s.cfg.cands[c]).enabled = false → gradeCandidate c s = s)
    ∧ ((s.cfg.cands[c]).enabled = true →
        ((s.cands[c]).state ≠ .valid → gradeCandidate c s = setClass c 0 (loop false))
        ∧ ((s.cands[c]).state = .valid →
            (∀ v, guarded v →
              gradeCandidate c s = setClass c 0
                (if (s.cands[c]).loop then loop true else raise .loop (.candidate c) v (loop true)))
            ∧ ((∀ v, ¬ guarded v) → gradeCandidate c s = setClass c (ruleClass u c) (loop false)))))
  ∧ ∀ (c : Cand) (k : Fin 8) (s : State),
      let r := s.cands[c]
      let wait : Wait := if s.cfg.selector.wtr = 0 then .indefinite
        else .definite (s.cfg.selector.wtr * 500) s.gen.epoch
      let R := if r.cls = 0 ∧ r.hasQualified = false then { r with cls := k, hasQualified := true }
        else if r.cls = 0 then { r with cls := k, wait := some wait }
        else if k = 0 then { r with cls := k, wait := none }
        else { r with cls := k }
      (r.cls = k → setClass c k s = s)
      ∧ (r.cls ≠ k →
          setClass c k s = raise .cls (.candidate c) (BitVec.ofNat 16 (256 * r.cls.val + k.val)) (s.setCand c R))

/-- The nine fields of a candidate: which are present, and with which value, on a trunk and on a station source (R92, R82). -/
def Obligations.FieldsOfACandidate : Prop :=
  ∀ (s : State) (c : Cand),
    let r := s.cands[c]
    fieldValue s c .freqDev = (match r.deviation with
        | none => none
        | some d => some (if d.natAbs ≤ 65535 then d.natAbs else 65535))
      ∧ fieldValue s c .phaseHits = r.lastHits
      ∧ fieldValue s c .index = some (c.val + 1)
      ∧ (∀ t : Trunk, (s.cfg.cands[c]).source = .trunk t →
          let f := s.framers[t]
          let x := s.stores[t]
          fieldValue s c .ql = some f.ql.val
            ∧ fieldValue s c .rdi = some (if f.rdi then 1 else 0)
            ∧ (f.sourceId = none → fieldValue s c .sourceId = none)
            ∧ (∀ v, f.sourceId = some v → fieldValue s c .sourceId = some v.toNat)
            ∧ fieldValue s c .slipRate = x.slipRate
            ∧ fieldValue s c .slipExcess = some (if x.slipExcess then 1 else 0)
            ∧ fieldValue s c .station = some 0)
      ∧ ∀ i, (s.cfg.cands[c]).source = .station i →
          fieldValue s c .ql = some (s.cfg.cands[c]).assumedQl.val ∧ fieldValue s c .station = some 1
            ∧ ∀ x ∈ [RuleField.rdi, .sourceId, .slipRate, .slipExcess], fieldValue s c x = none

/-- R93: when a rule matches the field it reads; its enable is not consulted. -/
def Obligations.RuleMatchesItsField : Prop :=
  ∀ (r : Rule) (s : State) (c : Cand),
    (∀ b, { r with enabled := b }.isMatch s c = r.isMatch s c)
    ∧ (fieldValue s c r.field = none → r.isMatch s c = false)
    ∧ ∀ v : Word16, fieldValue s c r.field = some v.toNat →
        (r.op = .eq → (r.isMatch s c = true ↔ v &&& r.mask = r.value &&& r.mask))
        ∧ (r.op = .ne → (r.isMatch s c = true ↔ v &&& r.mask ≠ r.value &&& r.mask))
        ∧ (r.op = .gt → (r.isMatch s c = true ↔ r.value.toNat < v.toNat))
        ∧ (r.op = .lt → (r.isMatch s c = true ↔ v.toNat < r.value.toNat))

/-- The rule list divided into chains: in list order, each chain's rules but its last joined, and its last not joined where
the list's last rule is not. The first chain that matches gives the class by its first rule's action, and no match gives
the default class (R94, R95, R96). -/
def Obligations.ChainsAndTheClassTheyGive : Prop :=
  (∀ rules : List Rule, (chains rules).flatten = rules
    ∧ ∀ x ∈ chains rules, ∃ inner last, x = inner ++ [last] ∧ (∀ r ∈ inner, r.join = true)
        ∧ ((∀ r, rules.getLast? = some r → r.join = false) → last.join = false))
  ∧ ∀ (s : State) (c : Cand),
      let fits := fun x : List Rule => ∃ r rs, x = r :: rs ∧ r.enabled = true ∧ r.isMatch s c = true
        ∧ ∀ q ∈ rs, q.enabled = true → q.isMatch s c = true
      (∀ before r rs after, chains s.cfg.rules.toList = before ++ (r :: rs) :: after → (∀ x ∈ before, ¬ fits x) →
        fits (r :: rs) →
          (∀ k, r.action = .cls k → ruleClass s c = k)
          ∧ ∀ v : Word16, r.action = .map → fieldValue s c r.field = some v.toNat →
              (ruleClass s c).val = if (v &&& r.mask).toNat < 8 then (v &&& r.mask).toNat else 7)
      ∧ ((∀ x ∈ chains s.cfg.rules.toList, ¬ fits x) → ruleClass s c = s.cfg.selector.defaultClass)

/-! ### Selection (chapter 6) -/

/-- The count-down of all waits at a multiframe start, and WAIT_END, which takes it whole where the wait it names is to end;
a WAIT_END that is not due does nothing (R121; assumptions 2, 5 and 16 for how the two share the count). -/
def Obligations.WaitsCountDownAndEnd : Prop :=
  (∀ (e : Epoch) (s : State),
    countWaitsAt e s = { s with cands := (countWaitsAt e s).cands }
    ∧ ∀ c : Cand, (countWaitsAt e s).cands[c] = { s.cands[c] with wait := match (s.cands[c]).wait with
        | some (.definite n last) =>
          if last = e then some (.definite n last) else if 1 < n then some (.definite (n - 1) e) else none
        | some .indefinite => some .indefinite
        | none => none })
  ∧ ∀ (c : Cand) (s : State), Takes s →
      (waitEndDue s c = false → exec (.waitEnd c) s = .next s)
      ∧ ∀ n last e, s.multiframeAt = some e → (s.cands[c]).wait = some (.definite n last) → n ≤ 1 → last ≠ e →
          exec (.waitEnd c) s = .next (countWaitsAt e s)

/-- The automatic choice: the first eligible candidate by class in quality mode, priority and number, or without
revertive operation the current selection while it is eligible (R104, R105). -/
def Obligations.AutomaticChoice : Prop :=
  ∀ s : State,
    let fit := fun c : Cand => (s.cfg.cands[c]).enabled = true ∧ (s.cands[c]).cls ≠ 0 ∧ s.sel.lockout[c] = false
      ∧ (s.cands[c]).wait = none
    let cls := fun c : Cand => if s.cfg.selector.quality then (s.cands[c]).cls.val else 0
    let pri := fun c : Cand => (s.cfg.cands[c]).priority
    let first := fun c d : Cand =>
      cls c < cls d ∨ cls c = cls d ∧ (pri c < pri d ∨ pri c = pri d ∧ c.val < d.val)
    (∀ c, eligible s c = true ↔ fit c)
    ∧ (∀ c, firstEligible s = some c ↔ fit c ∧ ∀ d, fit d → d ≠ c → first c d)
    ∧ (firstEligible s = none ↔ ∀ c, ¬ fit c)
    ∧ (s.cfg.selector.revertive = true → automaticChoice s = firstEligible s)
    ∧ (s.cfg.selector.revertive = false →
        (∀ c, s.sel.selection = some c → fit c → automaticChoice s = some c)
        ∧ ((∀ c, s.sel.selection = some c → ¬ fit c) → automaticChoice s = firstEligible s))

/-- An evaluation: the manual request dropped or kept, the new selection by the level that stands, and what a change
does, with the reason and the subject of its SELECTION event (R106, R108, R109, R117, R118, R125). The reason of a class evaluation that drops no manual request, 1 where the old
selection is still allowed and 2 where it is not, under a FORCED request too, is the model's reading (assumption 22). -/
def Obligations.EvaluationOfTheSelection : Prop :=
  ∀ (why : EvalCause) (ret : Option Cand) (s : State),
    let dropped := ∃ m, s.sel.manual = some m ∧ eligible s m.target = false
    let number := fun x : Option Cand => match x with
      | none => 0
      | some c => c.val + 1
    let who := match why with
      | .request l | .release l | .commit l => Subject.link l
      | .classes | .activityLoss | .timeout => .none
    ∃ u : State, (¬ dropped → u = s)
      ∧ (∀ m, s.sel.manual = some m → eligible s m.target = false →
          u = raise .requestDropped (.candidate m.target) 0x0203 (s.setSel { s.sel with manual := none }))
      ∧ ∃ new : Option Cand,
          (∀ f c, u.sel.forced = some f → f.target = some c →
            new = if (s.cands[c]).state.isActive then some c else none)
          ∧ (∀ f, u.sel.forced = some f → f.target = none → new = none)
          ∧ (∀ m, u.sel.forced = none → u.sel.manual = some m → new = some m.target)
          ∧ (∀ c, u.sel.forced = none → u.sel.manual = none → ret = some c → eligible u c = true → new = some c)
          ∧ (u.sel.forced = none → u.sel.manual = none → (∀ c, ret = some c → eligible u c = false) →
              new = automaticChoice u)
          ∧ (new = s.sel.selection → evaluate why ret s = u)
          ∧ (new ≠ s.sel.selection →
              ∃ reason : Nat, evaluate why ret s
                = followSelection (raise .selection who
                    (BitVec.ofNat 16 (256 * reason + 16 * number s.sel.selection + number new))
                    (u.setSel { u.sel with selection := new }))
                ∧ (why = .activityLoss → reason = 2) ∧ ((∃ l, why = .request l) → reason = 3)
                ∧ ((∃ l, why = .release l) → reason = 4) ∧ ((∃ l, why = .commit l) → reason = 5)
                ∧ (why = .timeout → reason = 7)
                ∧ (why = .classes → s.sel.selection = none → reason = 8)
                ∧ (why = .classes → s.sel.selection ≠ none → dropped → reason = 6)
                ∧ (∀ c, why = .classes → s.sel.selection = some c → ¬ dropped → s.sel.forced = none →
                    reason = if eligible s c then 1 else 2)
                ∧ (why = .classes → s.sel.selection ≠ none → ¬ dropped → s.sel.forced ≠ none → reason = 2))

/-- ACQUIRE_TIMEOUT: nothing where none has been reached (the model's choice, assumption 2); the selector's taking of one
handed over; and both halves in one where the acquire timer stands at 1024, in a state that no run reaches (R123, R140, R147;
assumption 15). -/
def Obligations.AcquireTimeout : Prop :=
  ∀ s : State, Takes s →
    let taken := fun (c : Cand) (u : State) =>
      let r := u.cands[c]
      let wait : Wait := if u.cfg.selector.wtr = 0 then .indefinite
        else .definite (u.cfg.selector.wtr * 500) u.gen.epoch
      if ∃ f, u.sel.forced = some f ∧ f.target = some c then u.setCand c { r with lockFail := true }
      else evaluate .timeout none
        (u.setCand c { r with lockFail := true
                              wait := if r.cls ≠ 0 ∧ r.wait = none then some wait else r.wait })
    let reached := s.synth.state = .acquire ∧ 1024 ≤ s.synth.acquireTimer
    (¬ reached → s.sel.timeouts = [] → exec .acquireTimeout s = .next s)
    ∧ (∀ c rest, ¬ reached → s.sel.timeouts = c :: rest →
        exec .acquireTimeout s = .next (taken c (s.setSel { s.sel with timeouts := rest })))
    ∧ ∀ c, reached → s.sel.selection = some c → s.sel.timeouts = [] →
        let n := min 65535 (s.synth.timeoutCount + 1)
        exec .acquireTimeout s
          = .next (taken c (raise .acquireTimeout (.candidate c) (BitVec.ofNat 16 n)
              (s.setSynth { s.synth with timeoutCount := n, acquireTimer := 0 })))

/-- SWITCH LOCKOUT, UNLOCK, FORCE and FORCE HOLDOVER on a READY link (R111 to R114, R116, R125). -/
def Obligations.LockoutUnlockAndForce : Prop :=
  (∀ (l : LinkId) (tag operand option : Octet) (check : Word16) (s : State), Ready s l →
    (check = checkFor 6 tag [1, operand, option] →
      (operand.toNat = 0 ∨ 8 < operand.toNat →
        exec (.lockout l tag operand option check) s = .next (Claim.switched l tag .badValue s))
      ∧ ∀ c : Cand, operand.toNat = c.val + 1 →
          let a := s.setSel { s.sel with lockout := s.sel.lockout.set c true }
          let b := if ∃ f, s.sel.forced = some f ∧ f.target = some c then
              raise .requestDropped (.candidate c) 0x0101 (a.setSel { a.sel with forced := none }) else a
          let d := if ∃ m, s.sel.manual = some m ∧ m.target = c then
              raise .requestDropped (.candidate c) 0x0201 (b.setSel { b.sel with manual := none }) else b
          exec (.lockout l tag operand option check) s
            = .next (Claim.switched l tag .ok (evaluate (.request l) none d)))
    ∧ (check = checkFor 6 tag [2, operand, option] →
      (operand.toNat = 0 ∨ 8 < operand.toNat →
        exec (.unlock l tag operand option check) s = .next (Claim.switched l tag .badValue s))
      ∧ ∀ c : Cand, operand.toNat = c.val + 1 →
          (s.sel.lockout[c] = false →
            exec (.unlock l tag operand option check) s = .next (Claim.switched l tag .notStanding s))
          ∧ (s.sel.lockout[c] = true →
              exec (.unlock l tag operand option check) s
                = .next (Claim.switched l tag .ok (evaluate (.request l) none
                    (s.setSel { s.sel with lockout := s.sel.lockout.set c false }))))))
  ∧ ∀ (l : LinkId) (tag operand option : Octet) (check : Word16) (s : State), Ready s l →
    let ret := match s.sel.forced with
      | some f => f.ret
      | none => s.sel.selection
    let placed := fun target : Option Cand => evaluate (.request l) none
      (s.setSel { s.sel with forced := some { target := target, link := l, epoch := s.gen.epoch, ret := ret } })
    (check = checkFor 6 tag [3, operand, option] →
      (operand.toNat = 0 ∨ 8 < operand.toNat →
        exec (.force l tag operand option check) s = .next (Claim.switched l tag .badValue s))
      ∧ ∀ c : Cand, operand.toNat = c.val + 1 →
          exec (.force l tag operand option check) s
            = .next (if (s.cfg.cands[c]).enabled = false then Claim.switched l tag .notEnabled s
                else if s.sel.lockout[c] = true then Claim.switched l tag .lockedOut s
                else Claim.switched l tag .ok (placed (some c))))
    ∧ (check = checkFor 6 tag [4, operand, option] →
        exec (.forceHoldover l tag operand option check) s = .next (Claim.switched l tag .ok (placed none)))

/-- SWITCH MANUAL, CLEAR-WAIT, RELEASE FORCED and RELEASE MANUAL, with and without RETURN, on a READY link (R111, R115, R116,
R117, R118, R122). -/
def Obligations.ManualClearWaitAndRelease : Prop :=
  (∀ (l : LinkId) (tag operand option : Octet) (check : Word16) (s : State), Ready s l →
    let ret := match s.sel.manual with
      | some m => m.ret
      | none => s.sel.selection
    (check = checkFor 6 tag [5, operand, option] →
      (operand.toNat = 0 ∨ 8 < operand.toNat →
        exec (.manual l tag operand option check) s = .next (Claim.switched l tag .badValue s))
      ∧ ∀ c : Cand, operand.toNat = c.val + 1 →
          exec (.manual l tag operand option check) s
            = .next (if s.sel.forced ≠ none then Claim.switched l tag .outranked s
                else if s.sel.lockout[c] = true then Claim.switched l tag .lockedOut s
                else if eligible s c = false then Claim.switched l tag .notEligible s
                else Claim.switched l tag .ok (evaluate (.request l) none
                  (s.setSel { s.sel with manual := some { target := c, link := l, epoch := s.gen.epoch, ret := ret } }))))
    ∧ (check = checkFor 6 tag [7, operand, option] →
      (operand.toNat = 0 ∨ 8 < operand.toNat →
        exec (.clearWait l tag operand option check) s = .next (Claim.switched l tag .badValue s))
      ∧ ∀ c : Cand, operand.toNat = c.val + 1 →
          exec (.clearWait l tag operand option check) s
            = .next (if (s.cands[c]).wait = none then Claim.switched l tag .notStanding s
                else Claim.switched l tag .ok (evaluate (.request l) none
                  (s.setCand c { s.cands[c] with wait := none })))))
  ∧ ∀ (l : LinkId) (tag option : Octet) (check : Word16) (s : State), Ready s l →
    (check = checkFor 6 tag [6, 1, option] →
      (s.sel.forced = none → exec (.releaseForced l tag option check) s = .next (Claim.switched l tag .notStanding s))
      ∧ ∀ f, s.sel.forced = some f →
          exec (.releaseForced l tag option check) s
            = .next (Claim.switched l tag .ok (evaluate (.release l) (if option = 0 then none else f.ret)
                (s.setSel { s.sel with forced := none }))))
    ∧ (check = checkFor 6 tag [6, 2, option] →
      (s.sel.manual = none → exec (.releaseManual l tag option check) s = .next (Claim.switched l tag .notStanding s))
      ∧ ∀ m, s.sel.manual = some m →
          exec (.releaseManual l tag option check) s
            = .next (Claim.switched l tag .ok (evaluate (.release l) (if option = 0 then none else m.ret)
                (s.setSel { s.sel with manual := none }))))

/-! ### The synthesizer (chapter 7) -/

/-- What the synthesizer does with a new selection, a candidate or none, and the exchange QL in each state (R132, R133, R146,
R147). -/
def Obligations.SynthesizerFollowsTheSelectionAndItsQl : Prop :=
  (∀ s : State,
    let y := s.synth
    let idle := { y with lockCount := 0, lossCount := 0, acquireTimer := 0, timeoutCount := 0 }
    (∀ c, s.sel.selection = some c →
      let start := match y.state with
        | .holdover => y.h
        | .freerun => s.cfg.synth.f0
        | .acquire | .locked => y.i
      let u := s.setSynth { idle with
        state := .acquire, i := start, buildOut := true
        exchangeQl := if y.history = 64 then s.cfg.synth.holdoverQl else s.cfg.synth.freerunQl }
      followSelection s = if y.state = .acquire then u
        else raise .synthState (.candidate c) (BitVec.ofNat 16 (256 * y.state.number + 1)) u)
    ∧ (s.sel.selection = none →
        (y.state = .holdover ∨ y.state = .freerun → followSelection s = s)
        ∧ (y.state = .acquire ∨ y.state = .locked →
            (y.history = 64 →
              followSelection s = raise .synthState .none (BitVec.ofNat 16 (256 * y.state.number + 3))
                (s.setSynth { idle with state := .holdover, f := y.h, i := y.h, buildOut := false
                                        exchangeQl := s.cfg.synth.holdoverQl }))
            ∧ (y.history ≠ 64 →
                followSelection s = raise .synthState .none (BitVec.ofNat 16 (256 * y.state.number))
                  (s.setSynth { idle with state := .freerun, f := s.cfg.synth.f0, i := s.cfg.synth.f0, buildOut := false
                                          exchangeQl := s.cfg.synth.freerunQl })))))
  ∧ ∀ s : State,
      (s.synth.state = .freerun → exchangeQlOf s = s.cfg.synth.freerunQl)
      ∧ (s.synth.state = .holdover → exchangeQlOf s = s.cfg.synth.holdoverQl)
      ∧ (s.synth.state = .acquire →
          exchangeQlOf s = if s.synth.history = 64 then s.cfg.synth.holdoverQl else s.cfg.synth.freerunQl)
      ∧ ∀ c, s.synth.state = .locked → s.sel.selection = some c →
          (∀ n : Trunk, (s.cfg.cands[c]).source = .trunk n → exchangeQlOf s = (s.framers[n]).ql)
          ∧ ∀ i, (s.cfg.cands[c]).source = .station i → exchangeQlOf s = (s.cfg.cands[c]).assumedQl

/-- A phase sample: raw phase, phase error, E, O and the loop update; no sample without a selection in ACQUIRE or LOCKED; what
a sample counts, lock and timeout in ACQUIRE, loss and holdover history in LOCKED; and its events SYNTH-STATE,
ACQUIRE-TIMEOUT and HOLDOVER-VALID (R134 to R142, R146, R147; the hand-over of a timeout is assumption 15). -/
def Obligations.PhaseSample : Prop :=
  (∀ s : State, s.synth.state = .freerun ∨ s.synth.state = .holdover → phaseSample s = s)
  ∧ ∀ (s : State) (c : Cand) (m : Tick), s.sel.selection = some c → (s.cands[c]).latest = some m →
      let y := s.synth
      let k := s.cfg.synth
      let raw := Claim.raw s.gen.frameStart m
      let d := Claim.phase y raw
      let e := Claim.clamp 64 d
      let i := Claim.clamp 10000 (y.i + e * 2 ^ k.band.val)
      let Y := { y with i := i, f := Claim.clamp 10000 (i + e * 2 ^ (k.band.val + 6))
                        o := if y.buildOut then raw else y.o, buildOut := false
                        last := some { raw := raw, d := d, e := e } }
      (y.state = .acquire → y.lockCount < 8 → y.acquireTimer < 1024 →
        let count := if d.natAbs ≤ 4 then y.lockCount + 1 else 0
        let L := { Y with state := .locked, lockCount := 8, lossCount := 0, acquireTimer := y.acquireTimer + 1 }
        let n := min 65535 (y.timeoutCount + 1)
        (count = 8 → phaseSample s
          = (raise .synthState (.candidate c) 0x0102
              (s.setSynth { L with exchangeQl := exchangeQlOf (s.setSynth L) })).setCand c
                { s.cands[c] with lockFail := false })
        ∧ (count ≠ 8 → y.acquireTimer + 1 < 1024 → phaseSample s
            = s.setSynth { Y with lockCount := count, acquireTimer := y.acquireTimer + 1 })
        ∧ (count ≠ 8 → y.acquireTimer + 1 = 1024 → phaseSample s
            = (raise .acquireTimeout (.candidate c) (BitVec.ofNat 16 n)
                (s.setSynth { Y with lockCount := count, acquireTimer := 0, timeoutCount := n })).setSel
                  { s.sel with timeouts := s.sel.timeouts ++ [c] }))
      ∧ (y.state = .locked → y.lossCount < 2 → y.history ≤ 64 →
          let count := if 32 < d.natAbs then y.lossCount + 1 else 0
          let H := { Y with lossCount := count, h := y.h + Int.fdiv (i - y.h) 16, history := min 64 (y.history + 1) }
          (count = 2 → phaseSample s
            = raise .synthState (.candidate c) 0x0201
                (s.setSynth { Y with state := .acquire, lossCount := 2, acquireTimer := 0, lockCount := 0
                                     timeoutCount := 0
                                     exchangeQl := if y.history = 64 then k.holdoverQl else k.freerunQl }))
          ∧ (count ≠ 2 → phaseSample s
              = if y.history = 63 then raise .holdoverValid (.candidate c) (BitVec.ofInt 16 H.h) (s.setSynth H)
                else s.setSynth H))

/-! ### Maintenance links (chapters 8 and 9) -/

/-- Every row that stands for a request is that request taken by its link; a READY link answers a wrong check BAD-CHECK, and a
link in SERVING or WAITING answers all but a right RESET with BUSY, where no response waits; BAD_KIND_REQUEST, IDENTIFY
and CLEAR RESET-CAUSE on a READY link; the check of a request, which is the CRC of 5.3, and the octets and status code of a
response (R151, R153, R154, R170). That a row is the request received whole and leaves the
reception alone is the model's choice (assumption 6), and that BUSY leaves the link's state its reading (assumption 8). -/
def Obligations.RequestsTakenByTheirLink : Prop :=
  (∀ (c : Instr) (l : LinkId) (q : Request) (s : State), Claim.rowRequest c = some (l, q) → Takes s →
    exec c s = .next (takeRequest l q s)
    ∧ ((s.link l).state = .ready → q.check ≠ checkFor q.kind q.tag q.body →
        exec c s = .next (Claim.answered l q.kind q.tag .badCheck [] s))
    ∧ ((s.link l).state ≠ .ready → ¬ (q.check = checkFor q.kind q.tag q.body ∧ q.kind = 12) →
        exec c s = .next (if (s.link l).waiting = [] then
            s.setLink l (Claim.sent (s.link l) (Claim.reply s l q.kind q.tag .busy [])) else s)))
  ∧ (∀ (l : LinkId) (tag : Octet) (check : Word16) (s : State), Ready s l →
      (∀ kind body, kind = 0 ∨ 12 < kind.toNat → check = checkFor kind tag body →
        exec (.badKindRequest l tag kind body check) s = .next (Claim.answered l kind tag .badKind [] s))
      ∧ (check = checkFor 1 tag [] →
          exec (.identify l tag check) s = .next (Claim.answered l 1 tag .ok [0x00, 0xB7, 0x72, 0x48, 0x01] s))
      ∧ (check = checkFor 10 tag [2] →
          exec (.clearResetCause l tag check) s = .next (Claim.answered l 10 tag .ok [] { s with cause := 0 })))
  ∧ (∀ (kind tag : Octet) (body : List Octet),
      checkFor kind tag body = Claim.crc (kind :: tag :: Claim.one body.length ++ body))
  ∧ ∀ r : Response,
      let message := r.kind :: r.tag :: Claim.statusCode r.status :: Claim.two r.generation.toNat ++ [r.flags]
        ++ Claim.one r.body.length ++ r.body
      r.octets = 0x7E :: message ++ Claim.two (Claim.crc message).toNat

/-- A request with a right check whose body no row of the table spells: a wrong length is BAD-LENGTH; another SWITCH action or
RELEASE level, TRUNK action, CLEAR option or RESET operand is BAD-VALUE; and a RESET refused so in SERVING or WAITING makes
its answer only where no response waits (R111, R151, R154, R155; that it leaves the link's state is assumption 8). -/
def Obligations.RequestsThatNoRowSpells : Prop :=
  (∀ (l : LinkId) (kind tag : Octet) (body : List Octet) (s : State), (s.link l).state = .ready →
    let q : Request := { kind := kind, tag := tag, body := body, check := checkFor kind tag body }
    let refused := fun why : Status => takeRequest l q s = Claim.answered l kind tag why [] s
    (kind = 1 ∨ kind = 5 → body.length ≠ 0 → refused .badLength)
    ∧ (kind = 8 ∨ kind = 9 ∨ kind = 10 ∨ kind = 11 ∨ kind = 12 → body.length ≠ 1 → refused .badLength)
    ∧ (kind = 4 ∨ kind = 7 → body.length ≠ 2 → refused .badLength)
    ∧ (kind = 6 → body.length ≠ 3 → refused .badLength)
    ∧ (kind = 2 → body.length ≠ 4 → refused .badLength)
    ∧ (kind = 3 → body.length < 3 → refused .badLength)
    ∧ (∀ action operand option : Octet, kind = 6 → body = [action, operand, option] →
        action.toNat = 0 ∨ 7 < action.toNat ∨ action = 6 ∧ operand ≠ 1 ∧ operand ≠ 2 →
        takeRequest l q s = Claim.switched l tag .badValue s)
    ∧ (∀ action trunk : Octet, kind = 7 → body = [action, trunk] → action ≠ 1 → action ≠ 2 → refused .badValue)
    ∧ (∀ x : Octet, kind = 10 ∨ kind = 12 → body = [x] → x ≠ 1 → x ≠ 2 → refused .badValue))
  ∧ ∀ (l : LinkId) (tag : Octet) (body : List Octet) (s : State), (s.link l).state ≠ .ready → body ≠ [1] → body ≠ [2] →
      takeRequest l { kind := 12, tag := tag, body := body, check := checkFor 12 tag body } s
        = if (s.link l).waiting = [] then
            s.setLink l (Claim.sent (s.link l)
              (Claim.reply s l 12 tag (if body.length = 1 then .badValue else .badLength) []))
          else s

/-- READ on a READY link: the checks in their order, the committed copy, the staged copy, a status record, and the
wander window that a READ of WANDER empties (R35, R157). -/
def Obligations.ReadOfAnItem : Prop :=
  ∀ (l : LinkId) (tag item i1 i2 selector : Octet) (check : Word16) (s : State), Ready s l →
    check = checkFor 2 tag [item, i1, i2, selector] →
    let out := fun (status : Status) (body : List Octet) (u : State) =>
      exec (.read l tag item i1 i2 selector check) s = .next (Claim.answered l 2 tag status body u)
    (stageItemOf item i1 i2 = none → statusItemOf item i1 = none → out .badItem [] s)
    ∧ (∀ it, stageItemOf item i1 i2 = some it →
        (selector = 0 → out .ok (s.cfg.item it).octets s)
        ∧ (selector = 1 →
            (∀ v, stagedFor (s.link l).staging it = some v → out .ok (1 :: v.octets) s)
            ∧ (stagedFor (s.link l).staging it = none → out .ok [0] s))
        ∧ (1 < selector.toNat → out .badValue [] s))
    ∧ ∀ it, statusItemOf item i1 = some it →
        (selector = 0 → (∀ n, it ≠ .wander n) → out .ok (statusBody s l it) s)
        ∧ (∀ n : Trunk, selector = 0 → it = .wander n →
            let x := s.stores[n]
            let two := fun d : Nat => [BitVec.ofNat 8 (d / 256), BitVec.ofNat 8 d]
            let body := fun w : Option (Nat × Nat) => match w with
              | none => [0, 0, 0, 0, 0]
              | some (lo, hi) => 1 :: two lo ++ two hi
            (l = .a → out .ok (body x.wanderA) (s.setStore n { x with wanderA := none }))
            ∧ (l = .b → out .ok (body x.wanderB) (s.setStore n { x with wanderB := none })))
        ∧ (selector = 1 → out .badItem [] s) ∧ (1 < selector.toNat → out .badValue [] s)

/-- What a READ of each of the eleven status items carries, field by field, CAPTURE-RECORD and WANDER included (R19, R35, R44,
R46, R47, R67, R85, R126, R148, R165, R170), and the numbers of the states and slip kinds in them (1.2, 4.3, 7.1, R46, R47).
That the errored bit of an IDLE capture is 0 is the model's choice (assumption 25). That SYNTH-STATUS shows the selector's selection is assumption 20; between its
position 1 and its completion an errored frame is not counted yet (assumption 23). -/
def Obligations.StatusRecordsCarryTheirFields : Prop :=
  open Claim in
  (FramerState.off.number = 0 ∧ FramerState.noSignal.number = 1 ∧ (∀ w, (FramerState.hunt w).number = 2)
    ∧ (∀ f os, (FramerState.confirm f os).number = 3) ∧ (∀ a, (FramerState.aligned a).number = 4)
    ∧ StoreState.idle.number = 0 ∧ StoreState.priming.number = 1 ∧ StoreState.run.number = 2
    ∧ SlipKind.repeated.number = 1 ∧ SlipKind.deleted.number = 2 ∧ SlipKind.recenter.number = 3
    ∧ MonitorState.absent.number = 0 ∧ MonitorState.inactive.number = 1 ∧ MonitorState.measuring.number = 2
    ∧ MonitorState.valid.number = 3 ∧ MonitorState.outOfRange.number = 4
    ∧ SynthState.freerun.number = 0 ∧ SynthState.acquire.number = 1 ∧ SynthState.locked.number = 2
    ∧ SynthState.holdover.number = 3)
  ∧ (∀ (s : State) (l : LinkId) (t : Trunk),
    let f := s.framers[t]
    let x := s.stores[t]
    (∀ expected run, (∀ a, f.state = .aligned a → expected = a.expected.val ∧ run = a.erroredRun) →
        (f.state.isAligned = false → expected = 255 ∧ run = 0) →
        statusBody s l (.trunk t)
          = bit (s.cfg.trunks[t]).enabled ++ one f.state.number ++ bit f.los ++ bit f.ais ++ bit f.rdi ++ one f.ql.val
            ++ bit f.sourceId.isSome ++ two (f.sourceId.getD 0).toNat ++ one expected ++ one run ++ two f.alignErrors)
    ∧ statusBody s l (.store t)
        = one x.state.number ++ one x.queue.length ++ one x.inProgress.length ++ bit x.last.isSome
          ++ bit x.transit.isSome ++ two (x.transit.getD 0) ++ two x.repeats ++ two x.deletes ++ one x.windowCount
          ++ bit x.slipExcess ++ bit x.slipRate.isSome ++ one (x.slipRate.getD 0)
    ∧ statusBody s l (.history t)
        = one x.history.length
          ++ x.history.flatMap fun r => one r.kind.number ++ four r.epoch.toNat ++ one r.frame.val ++ one r.held)
  ∧ (∀ (s : State) (l : LinkId) (c : Cand),
      let k := s.cfg.cands[c]
      let r := s.cands[c]
      statusBody s l (.candidate c)
        = bit k.enabled
          ++ (match k.source with
            | .none => [0, 0]
            | .trunk n => 1 :: one n.val
            | .station .s1 => [2, 0]
            | .station .s2 => [3, 0])
          ++ one r.state.number ++ two r.intervals ++ two r.hits ++ bit r.latest.isSome ++ four (r.latest.getD 0).toNat
          ++ bit r.deviation.isSome ++ four (r.deviation.getD 0 % 4294967296).toNat ++ two (r.lastHits.getD 0)
          ++ one r.cls.val ++ bit r.loop
          ++ (match r.wait with
            | none => 0 :: four 0
            | some (.definite n _) => 1 :: four n
            | some .indefinite => 2 :: four 0)
          ++ bit r.hasQualified ++ bit r.lockFail)
  ∧ ∀ (s : State) (l : LinkId),
      let y := s.synth
      let k := s.link l
      let sample := y.last.getD { raw := 0, d := 0, e := 0 }
      statusBody s l .selector
          = candNumber s.sel.selection
            ++ (match s.sel.forced with
              | none => List.replicate 8 0
              | some f => 1 :: candNumber f.target ++ linkNumber f.link ++ four f.epoch.toNat ++ candNumber f.ret)
            ++ (match s.sel.manual with
              | none => List.replicate 8 0
              | some m => 1 :: candNumber (some m.target) ++ linkNumber m.link ++ four m.epoch.toNat ++ candNumber m.ret)
            ++ bit (s.sel.manual.isSome && s.sel.forced.isSome) ++ [lockoutOctet s.sel.lockout]
        ∧ (∀ c : Cand, (lockoutOctet s.sel.lockout).getLsbD c.val = s.sel.lockout[c])
        ∧ statusBody s l .synth
            = one y.state.number ++ candNumber s.sel.selection ++ signed y.f ++ signed y.i ++ signed y.h ++ one y.history
              ++ bit (decide (y.history = 64)) ++ two y.o ++ bit y.buildOut ++ two y.r ++ one y.lockCount
              ++ one y.lossCount ++ two y.acquireTimer ++ two y.timeoutCount ++ bit y.last.isSome ++ two sample.raw
              ++ signed sample.d ++ one (sample.e % 256).toNat ++ one y.exchangeQl.val
        ∧ statusBody s l .timing
            = four s.gen.tick.toNat ++ four s.gen.frameStart.toNat ++ two s.gen.frameLength
              ++ one s.gen.frameNumber.val ++ four s.gen.epoch.toNat ++ one s.gen.frameQl.val ++ bit s.out.squelched1
              ++ bit s.out.squelched2
        ∧ statusBody s l .cause = [s.cause]
        ∧ statusBody s l .link
            = linkNumber l ++ two k.staging.length ++ one k.queue.length ++ bit k.overflow ++ [k.mask]
              ++ bit (match s.commit with
                | none => false
                | some p => p.link != l) ++ bit k.capture.isSome
        ∧ statusBody s l .capture = (match k.capture with
            | none => [0]
            | some r => 1 :: captureBody r)
        ∧ ∀ t : Trunk, statusBody s l (.wander t)
            = match (match l with
                | .a => (s.stores[t]).wanderA
                | .b => (s.stores[t]).wanderB) with
              | none => [0, 0, 0, 0, 0]
              | some (lo, hi) => 1 :: two lo ++ two hi

/-- STAGE and DISCARD on a READY link: the checks in their order, the staged value and the response (R158). -/
def Obligations.StageAndDiscard : Prop :=
  (∀ (l : LinkId) (tag item i1 i2 : Octet) (value : List Octet) (check : Word16) (s : State), Ready s l →
    check = checkFor 3 tag (item :: i1 :: i2 :: value) →
    let out := fun (status : Status) (body : List Octet) (u : State) =>
      exec (.stage l tag item i1 i2 value check) s = .next (Claim.answered l 3 tag status body u)
    (stageItemOf item i1 i2 = none → out .badItem [] s)
    ∧ ∀ it, stageItemOf item i1 i2 = some it →
        (value.length ≠ it.valueLength → out .badLength [] s)
        ∧ (value.length = it.valueLength → stagedValue it value = none → out .badValue [] s)
        ∧ ∀ v, value.length = it.valueLength → stagedValue it value = some v →
            out .ok v.octets (s.setLink l
              { s.link l with staging := (s.link l).staging.filter (fun w => w.item != v.item) ++ [v] }))
  ∧ ∀ (l : LinkId) (tag : Octet) (check : Word16) (s : State), Ready s l → check = checkFor 5 tag [] →
      exec (.discard l tag check) s
        = .next (Claim.answered l 5 tag .ok [] (s.setLink l { s.link l with staging := [] }))

/-- The items that the codes and indexes of a READ or STAGE name, the octets of an item's value, and the configuration as
items: each reads its own field, and a value put in place changes that item alone (R156, R157, R158 and the items' own
rules). -/
def Obligations.ItemsAndTheirCodes : Prop :=
  open Claim in
  (∀ (code i1 i2 : Octet) (it : StageItem), stageItemOf code i1 i2 = some it ↔
    match it with
    | .trunk t => code = 1 ∧ i1.toNat = t.val
    | .lane p i => code = 2 ∧ i1 = (match p with
        | .a => 0
        | .b => 1) ∧ i2.toNat = i.val
    | .pattern p => code = 3 ∧ i1 = match p with
        | .a => 0
        | .b => 1
    | .candidate c => code = 4 ∧ i1.toNat = c.val + 1
    | .rule r => code = 5 ∧ i1.toNat = r.val
    | .loopGuard k => code = 6 ∧ i1.toNat = k.val
    | .selector => code = 7
    | .monitor => code = 8
    | .synth => code = 9
    | .output n => code = 10 ∧ i1.toNat = n.val + 1)
  ∧ (∀ (code i1 : Octet) (it : StatusItem), statusItemOf code i1 = some it ↔
      match it with
      | .trunk t => code = 16 ∧ i1.toNat = t.val
      | .store t => code = 17 ∧ i1.toNat = t.val
      | .history t => code = 18 ∧ i1.toNat = t.val
      | .wander t => code = 19 ∧ i1.toNat = t.val
      | .candidate c => code = 20 ∧ i1.toNat = c.val + 1
      | .selector => code = 21
      | .synth => code = 22
      | .timing => code = 23
      | .cause => code = 24
      | .link => code = 25
      | .capture => code = 26)
  ∧ (∀ v : ItemValue, v.octets = match v with
      | .trunk _ x => bit x.enabled ++ one x.threshold
      | .lane _ _ (.trunk t) => 0 :: one t.val
      | .lane _ _ .idle => [1, 0]
      | .lane _ _ .test => [2, 0]
      | .pattern _ x => x.toList
      | .candidate _ x => bit x.enabled
          ++ (match x.source with
            | .none => [0, 0]
            | .trunk t => 1 :: one t.val
            | .station .s1 => [2, 0]
            | .station .s2 => [3, 0])
          ++ one x.priority ++ one x.assumedQl.val
      | .rule _ x => bit x.enabled ++ bit x.join
          ++ (match x.field with
            | .ql => [0]
            | .rdi => [1]
            | .sourceId => [2]
            | .freqDev => [3]
            | .phaseHits => [4]
            | .slipRate => [5]
            | .slipExcess => [6]
            | .index => [7]
            | .station => [8])
          ++ (match x.op with
            | .eq => [0]
            | .ne => [1]
            | .gt => [2]
            | .lt => [3])
          ++ two x.value.toNat ++ two x.mask.toNat
          ++ (match x.action with
            | .cls k => 0 :: one k.val
            | .map => [1, 0])
      | .loopGuard _ none => [0, 0, 0]
      | .loopGuard _ (some id) => 1 :: two id.toNat
      | .selector x => bit x.quality ++ bit x.revertive ++ two x.wtr ++ one x.defaultClass.val
      | .monitor x => one x
      | .synth x => one x.band.val ++ signed x.f0 ++ one x.holdoverQl.val ++ one x.freerunQl.val
      | .output _ x => one x.val)
  ∧ (∀ (k : Settings) (it : StageItem), k.item it = match it with
      | .trunk t => .trunk t k.trunks[t]
      | .lane .a i => .lane .a i k.lanesA[i]
      | .lane .b i => .lane .b i k.lanesB[i]
      | .pattern .a => .pattern .a k.patternA
      | .pattern .b => .pattern .b k.patternB
      | .candidate c => .candidate c k.cands[c]
      | .rule r => .rule r k.rules[r]
      | .loopGuard j => .loopGuard j k.loopGuard[j]
      | .selector => .selector k.selector
      | .monitor => .monitor k.freqLimit
      | .synth => .synth k.synth
      | .output 0 => .output 0 k.squelch1
      | .output 1 => .output 1 k.squelch2)
  ∧ (∀ (k : Settings) (it : StageItem), (k.item it).item = it ∧ (k.item it).octets.length = it.valueLength)
  ∧ (∀ (k : Settings) (v : ItemValue), (k.put v).item v.item = v
      ∧ ∀ it, it ≠ v.item → (k.put v).item it = k.item it)
  ∧ ∀ (it : StageItem) (os : List Octet) (v : ItemValue), stagedValue it os = some v → v.item = it

/-- The clamps and refusals of the staged values of every item (R55, R56, R65, R68, R79, R89, R91, R103, R128, R156, R158). -/
def Obligations.StagedValuesAreClamped : Prop :=
  (∀ (t : Trunk) (a b : Octet), stagedValue (.trunk t) [a, b]
      = some (.trunk t { enabled := a != 0
                         threshold := if b.toNat = 0 then 1 else if 15 < b.toNat then 15 else b.toNat }))
  ∧ (∀ (p : Plane) (i : Lane) (a b : Octet),
      (a = 1 → stagedValue (.lane p i) [a, b] = some (.lane p i .idle))
      ∧ (a = 2 → stagedValue (.lane p i) [a, b] = some (.lane p i .test))
      ∧ (2 < a.toNat → stagedValue (.lane p i) [a, b] = none)
      ∧ (a = 0 → 48 ≤ b.toNat → stagedValue (.lane p i) [a, b] = none)
      ∧ ∀ n : Trunk, a = 0 → b.toNat = n.val → stagedValue (.lane p i) [a, b] = some (.lane p i (.trunk n)))
  ∧ (∀ (c : Cand) (e k t p q : Octet),
      (3 < k.toNat ∨ (k = 1 ∧ 47 < t.toNat) ∨ 15 < q.toNat → stagedValue (.candidate c) [e, k, t, p, q] = none)
      ∧ ∀ (src : Source) (ql : Ql), q.toNat = ql.val →
          (k = 0 ∧ src = .none ∨ (∃ n : Trunk, k = 1 ∧ t.toNat = n.val ∧ src = .trunk n)
            ∨ k = 2 ∧ src = .station .s1 ∨ k = 3 ∧ src = .station .s2) →
          stagedValue (.candidate c) [e, k, t, p, q]
            = some (.candidate c { enabled := e != 0, source := src, assumedQl := ql
                                   priority := if p.toNat = 0 then 1 else if 8 < p.toNat then 8 else p.toNat }))
  ∧ (∀ a b w1 w0 k : Octet,
      (7 < k.toNat → stagedValue .selector [a, b, w1, w0, k] = none)
      ∧ ∀ cls : Fin 8, k.toNat = cls.val →
          stagedValue .selector [a, b, w1, w0, k]
            = some (.selector { quality := a != 0, revertive := b != 0, defaultClass := cls
                                wtr := if 1023 < 256 * w1.toNat + w0.toNat then 1023
                                  else 256 * w1.toNat + w0.toNat }))
  ∧ (∀ a : Octet, stagedValue .monitor [a] = some (.monitor (if a = 0 then 1 else a.toNat)))
  ∧ (∀ b f1 f0 h r : Octet,
      (3 < b.toNat ∨ 15 < h.toNat ∨ 15 < r.toNat → stagedValue .synth [b, f1, f0, h, r] = none)
      ∧ ∀ (band : Fin 4) (ho fr : Ql), b.toNat = band.val → h.toNat = ho.val → r.toNat = fr.val →
          stagedValue .synth [b, f1, f0, h, r]
            = some (.synth { band := band, f0 := Claim.clamp 10000 ((f1 ++ f0 : BitVec 16).toInt)
                             holdoverQl := ho, freerunQl := fr }))
  ∧ (∀ (n : Fin 2) (a : Octet),
      (15 < a.toNat → stagedValue (.output n) [a] = none)
      ∧ ∀ q : Ql, a.toNat = q.val → stagedValue (.output n) [a] = some (.output n q))
  ∧ (∀ (p : Plane) (os : List Octet), os.length = 32 → ∃ v, stagedValue (.pattern p) os = some (.pattern p v) ∧ v.toList = os)
  ∧ (∀ (k : Fin 4) (present hi lo : Octet), stagedValue (.loopGuard k) [present, hi, lo]
      = some (.loopGuard k (if present = 0 then none else some (hi ++ lo))))
  ∧ ∀ (r : Fin 16) (e j f p v1 v0 m1 m0 a k : Octet),
      let staged := stagedValue (.rule r) [e, j, f, p, v1, v0, m1, m0, a, k]
      (8 < f.toNat ∨ 3 < p.toNat ∨ 1 < a.toNat ∨ a = 0 ∧ 7 < k.toNat → staged = none)
      ∧ ∀ field op action,
          (f, field) ∈ [(0#8, RuleField.ql), (1, .rdi), (2, .sourceId), (3, .freqDev), (4, .phaseHits), (5, .slipRate),
            (6, .slipExcess), (7, .index), (8, .station)] →
          (p, op) ∈ [(0#8, RuleOp.eq), (1, .ne), (2, .gt), (3, .lt)] →
          (a = 0 ∧ (∃ c : Fin 8, k.toNat = c.val ∧ action = .cls c)) ∨ (a = 1 ∧ action = .map) →
          staged = some (.rule r { enabled := e != 0, join := j != 0, field := field, op := op, value := v1 ++ v0
                                   mask := m1 ++ m0, action := action })

/-- COMMIT on a READY link: the four checks in their order; an accepted one becomes the pending commit and the link
waits (R151, R159) for the first multiframe start after it, which is the one at this instant unless the generator or an
apply has taken that (R160, R162; the part of the apply in this is the model's reading, assumption 24). -/
def Obligations.CommitIsCheckedThenPending : Prop :=
  ∀ (l : LinkId) (tag : Octet) (expected check : Word16) (s : State), Ready s l →
    check = checkFor 4 tag [expected.extractLsb' 8 8, expected.extractLsb' 0 8] →
    let merged := (s.link l).staging.foldl Settings.put s.cfg
    let valid := merged.rules[15].join = false
      ∧ ∀ c : Cand, (merged.cands[c]).enabled = true →
          (merged.cands[c]).source ≠ .none
            ∧ ∀ d : Cand, d ≠ c → (merged.cands[d]).enabled = true → (merged.cands[d]).source ≠ (merged.cands[c]).source
    let out := exec (.commit l tag expected check) s
    ((s.link l).staging = [] → out = .next (Claim.answered l 4 tag .empty [] s))
    ∧ ((s.link l).staging ≠ [] → s.commit ≠ none → out = .next (Claim.answered l 4 tag .commitPending [] s))
    ∧ ((s.link l).staging ≠ [] → s.commit = none → expected ≠ s.generation →
        out = .next (Claim.answered l 4 tag .stale [] s))
    ∧ ((s.link l).staging ≠ [] → s.commit = none → expected = s.generation → ¬ valid →
        out = .next (Claim.answered l 4 tag .conflict [] s))
    ∧ ((s.link l).staging ≠ [] → s.commit = none → expected = s.generation → valid →
        let start := if Claim.Due s ∧ s.gen.frameNumber = 15 ∧ s.applied = true then s.gen.epoch + 2
          else s.gen.epoch + 1
        out = .next (({ s with commit := some { link := l, start := start } } : State).setLink l
          { s.link l with state := .waiting, outstanding := some { kind := 4, tag := tag, work := .commit } }))

/-- COMMIT_APPLY: nothing without a pending commit at its multiframe start (assumption 2); at it the merged
configuration, the generation, trunks, stores, candidates, lanes and the completion response (R2, R41, R48, R60, R80, R160).
The merge of the staging area at the apply, the order of the blocks' actions, and the CLASS event that a candidate enabled
after its reset may still have to come from an activity loss are the model's readings (assumptions 19, 14 and 26), and a
framer's stamp and QL last received after it are its choice (assumption 9, unsafe). -/
def Obligations.CommitApply : Prop :=
  ∀ (ord : Nat) (s : State), Takes s →
    (commitDue s = none → exec (.commitApply ord) s = .next s)
    ∧ ∀ l, commitDue s = some l →
        ∃ t, exec (.commitApply ord) s = .next t
          ∧ t.cfg = (s.link l).staging.foldl Settings.put s.cfg ∧ t.generation = s.generation + 1 ∧ t.commit = none
          ∧ (t.link l).staging = [] ∧ (∀ m, m ≠ l → Heard (s.link m) (t.link m))
          ∧ t.applied = true ∧ t.gen = s.gen ∧ t.cause = s.cause ∧ t.out.handed = s.out.handed
          ∧ t.sel.lockout = s.sel.lockout
          ∧ (∀ kind tag w, (s.link l).outstanding = some { kind := kind, tag := tag, work := w } →
              (t.link l).state = .serving ∧ (t.link l).outstanding = none
                ∧ ∃ r : Response, r.kind = kind ||| 0x80 ∧ r.tag = tag ∧ r.status = .ok ∧ r.body = []
                    ∧ r.generation = s.generation + 1
                    ∧ (t.link l).sending = (Claim.sent (s.link l) r).sending
                    ∧ (t.link l).waiting = (Claim.sent (s.link l) r).waiting)
          ∧ (∀ n : Trunk,
              let f := s.framers[n]
              let was := (s.cfg.trunks[n]).enabled
              let now := (t.cfg.trunks[n]).enabled
              (was = now → t.framers[n] = f ∧ t.stores[n] = s.stores[n])
              ∧ (was = false → now = true →
                  t.framers[n] = { Framer.reset with state := .noSignal, losFrom := some s.gen.tick
                                                     alignErrors := f.alignErrors }
                  ∧ ∀ e, s.multiframeAt = some e → t.stores[n] = { s.stores[n] with
                      windowComplete := decide (e.toNat % 4096 = 0 ∧ (s.stores[n]).windowFrom = e) })
              ∧ (was = true → now = false →
                  t.framers[n] = { Framer.reset with alignErrors := f.alignErrors }
                  ∧ (t.stores[n]).repeats = (s.stores[n]).repeats ∧ (t.stores[n]).deletes = (s.stores[n]).deletes
                  ∧ (t.stores[n]).history = [] ∧ (t.stores[n]).windowCount = 0 ∧ (t.stores[n]).slipRate = none
                  ∧ (t.stores[n]).transit = none ∧ (t.stores[n]).wanderA = none ∧ (t.stores[n]).wanderB = none
                  ∧ (t.stores[n]).slipExcess = false
                  ∧ (f.state.isAligned = true → (t.stores[n]).state = .idle ∧ (t.stores[n]).queue = []
                      ∧ (t.stores[n]).inProgress = [] ∧ (t.stores[n]).last = none)))
          ∧ (∀ c : Cand,
              let old := s.cfg.cands[c]
              let new := t.cfg.cands[c]
              (old.enabled ≠ new.enabled ∨ new.enabled = true ∧ old.source ≠ new.source →
                (new.enabled = false → t.cands[c] = Claim.renewed false)
                ∧ (new.enabled = true → ∃ owed, t.cands[c] = { Claim.renewed true with lostCls := owed }
                    ∧ (owed = (s.cands[c]).lostCls
                      ∨ Claim.Due s ∧ (s.cands[c]).cls ≠ 0 ∧ owed = some (s.cands[c]).cls)))
              ∧ (old.enabled = new.enabled → old.source = new.source →
                  (∀ n : Trunk, new.source = .trunk n → (s.cfg.trunks[n]).enabled = (t.cfg.trunks[n]).enabled) →
                  t.cands[c] = s.cands[c]))
          ∧ (¬ Claim.Due s →
              t.out.lanesA = (if s.cfg.lanesA = t.cfg.lanesA ∧ s.cfg.patternA = t.cfg.patternA then s.out.lanesA
                else planeLanes t .a)
              ∧ t.out.lanesB = (if s.cfg.lanesB = t.cfg.lanesB ∧ s.cfg.patternB = t.cfg.patternB then s.out.lanesB
                else planeLanes t .b))

/-- What COMMIT_APPLY does, in its order: CONFIG-COMMITTED, the trunks and candidates that changed, the lanes, the synthesizer's
F0 in FREERUN and exchange QL, the selector's requests on disabled candidates and its evaluation, and the completion response;
every order of the trunks and candidates is that of some operand; and what a trunk and a candidate take (R2, R41, R48, R60,
R80, R81, R84, R124, R144, R146, R160). The order, the merge, the epoch of the events and the flag of an apply are the model's
readings (assumptions 3 and 14, 19, 5 and 24), and so are that an evaluation inside a trunk's disable goes by the old quality
mode, revertive setting and priorities, which R103 and R124 use from the selector's own action on, and by the rest of the new
configuration (assumption 27), and the place of the CLASS event of an activity loss before the apply (assumption 26); a
framer's stamp and QL last received are its choice (assumption 9, unsafe). -/
def Obligations.CommitApplyInItsOrder : Prop :=
  (∀ (s : State) (l : LinkId) (e : Epoch) (o : Outstanding), Takes s → commitDue s = some l →
    s.multiframeAt = some e → (s.link l).outstanding = some o →
    let k := (s.link l).staging.foldl Settings.put s.cfg
    let s1 := raise .configCommitted (.link l) (s.generation + 1)
      { s with cfg := k, generation := s.generation + 1, gen := { s.gen with epoch := e } }
    let held := { k with
      selector := { k.selector with quality := s.cfg.selector.quality, revertive := s.cfg.selector.revertive }
      cands := Vector.ofFn fun c => { k.cands[c] with priority := (s.cfg.cands[c]).priority } }
    let order := fun us : List ApplyUnit => us.Perm ((List.finRange 48).map .trunk ++ (List.finRange 8).map .candidate)
    let taken := fun (ord : Nat) (us : List ApplyUnit) =>
      let s2 := { us.foldl (fun u x => x.take s.cfg u) { s1 with cfg := held } with cfg := k }
      let lane := fun (p : Plane) (u : State) =>
        if s.cfg.lanes p = k.lanes p ∧ s.cfg.pattern p = k.pattern p then u else fixLanes p u
      let s3 := if s.startDue = true then s2 else lane .b (lane .a s2)
      let s4 := if s.cfg.synth.f0 ≠ k.synth.f0 ∧ s3.synth.state = .freerun then
          s3.setSynth { s3.synth with f := k.synth.f0, i := k.synth.f0 } else s3
      let s5 := s4.setSynth { s4.synth with exchangeQl := exchangeQlOf s4 }
      ∃ s6 s7 : State,
        (∀ f c, s5.sel.forced = some f → f.target = some c → (k.cands[c]).enabled = false →
          s6 = raise .requestDropped (.candidate c) 0x0102 (s5.setSel { s5.sel with forced := none }))
        ∧ ((∀ f c, s5.sel.forced = some f → f.target = some c → (k.cands[c]).enabled = true) → s6 = s5)
        ∧ (∀ m, s6.sel.manual = some m → (k.cands[m.target]).enabled = false →
            s7 = raise .requestDropped (.candidate m.target) 0x0202 (s6.setSel { s6.sel with manual := none }))
        ∧ ((∀ m, s6.sel.manual = some m → (k.cands[m.target]).enabled = true) → s7 = s6)
        ∧ let s8 := evaluate (.commit l) none s7
          let s9 := ({ s8 with gen := s.gen, commit := none, applied := true } : State).setLink l
            { s8.link l with staging := [] }
          exec (.commitApply ord) s
            = .next (s9.setLink l { Claim.sent (s9.link l) (Claim.reply s9 l o.kind o.tag .ok []) with
                state := .serving, outstanding := none })
    (∀ ord : Nat, ∃ us, order us ∧ taken ord us) ∧ ∀ us, order us → ∃ ord : Nat, taken ord us)
  ∧ ∀ (old : Settings) (s : State),
      (∀ t : Trunk,
        let f := s.framers[t]
        let x := s.stores[t]
        ((old.trunks[t]).enabled = (s.cfg.trunks[t]).enabled → (ApplyUnit.trunk t).take old s = s)
        ∧ ((old.trunks[t]).enabled = false → (s.cfg.trunks[t]).enabled = true →
            (ApplyUnit.trunk t).take old s
              = raise .trunkState (.trunk t) (BitVec.ofNat 16 (256 * f.state.number + 1))
                  ((s.setFramer t { Framer.reset with state := .noSignal, losFrom := some s.gen.tick
                                                      alignErrors := f.alignErrors }).setStore t
                    { x with windowComplete :=
                        decide (s.gen.epoch.toNat % 4096 = 0 ∧ x.windowFrom = s.gen.epoch) }))
        ∧ ((old.trunks[t]).enabled = true → (s.cfg.trunks[t]).enabled = false →
            let told := if f.state.isAligned = true then tellMonitors t (s.setStore t (Claim.flushed x)) else s
            let F := { Framer.reset with alignErrors := f.alignErrors }
            let u := Claim.alarmEvent t f F
              ((raise .trunkState (.trunk t) (BitVec.ofNat 16 (256 * f.state.number)) told).setFramer t F)
            let v := u.setStore t { u.stores[t] with
              history := [], windowCount := 0, slipRate := none, transit := none, wanderA := none, wanderB := none
              slipExcess := false, windowComplete := false }
            (ApplyUnit.trunk t).take old s
              = if x.slipExcess = true then raise .slipExcess (.trunk t) 0 v else v))
      ∧ ∀ c : Cand,
          let a := old.cands[c]
          let b := s.cfg.cands[c]
          let u := if b.enabled = true then s else Claim.lossTold c s
          let R := { Claim.renewed b.enabled with lostCls := (u.cands[c]).lostCls }
          (a.enabled = b.enabled → a.source = b.source ∨ b.enabled = false → (ApplyUnit.candidate c).take old s = s)
          ∧ (a.enabled ≠ b.enabled ∨ a.source ≠ b.source ∧ b.enabled = true →
              (ApplyUnit.candidate c).take old s
                = raise .monitor (.candidate c)
                    (BitVec.ofNat 16 (256 * (s.cands[c]).state.number + R.state.number)) (u.setCand c R))

/-- An event is offered to both queues at once, each taking it under its own mask and its limit of 32; EVENTS, with the 8 octets
of each event record, and MASK on a READY link (R166, R167, R168, R169). -/
def Obligations.EventsAndMasks : Prop :=
  (∀ (kind : EventKind) (subject : Subject) (detail : Word16) (s : State) (l : LinkId),
    let e : Event := { kind := kind, subject := subject, epoch := s.gen.epoch, detail := detail }
    let k := s.link l
    let bit := match kind with
      | .trunkState | .trunkAlarm => 0
      | .slip | .slipExcess => 1
      | .monitor | .cls | .loop => 2
      | .selection | .requestDropped => 3
      | .synthState | .holdoverValid | .acquireTimeout => 4
      | .configCommitted | .countersCleared | .reset => 5
    (raise kind subject detail s).link l
      = if k.mask.getLsbD bit = false then k
        else if k.queue.length < 32 then { k with queue := k.queue ++ [e] }
        else { k with overflow := true })
  ∧ ∀ (l : LinkId) (tag x : Octet) (check : Word16) (s : State), Ready s l →
      let k := s.link l
      (check = checkFor 9 tag [x] →
        (x.toNat = 0 ∨ 8 < x.toNat → exec (.events l tag x check) s = .next (Claim.answered l 9 tag .badValue [] s))
        ∧ (1 ≤ x.toNat → x.toNat ≤ 8 →
            let u := Claim.answered l 9 tag .ok ((k.queue.take x.toNat).flatMap Claim.eventOctets)
              (s.setLink l { k with queue := k.queue.drop x.toNat })
            exec (.events l tag x check) s
              = .next (u.setLink l { u.link l with overflow := if k.queue.length ≤ x.toNat then false else k.overflow })))
      ∧ (check = checkFor 11 tag [x] →
          exec (.mask l tag x check) s
            = .next (if x.toNat < 64 then Claim.answered l 11 tag .ok [x] (s.setLink l { k with mask := x })
                else Claim.answered l 11 tag .badValue [] s))

/-- RESET LINK, in every state of its link: what it empties, what it abandons, and its answer (R34, R45, R161, R163). -/
def Obligations.ResetOfALink : Prop :=
  ∀ (l : LinkId) (tag : Octet) (check : Word16) (s : State), Takes s → check = checkFor 12 tag [1] →
    ∃ u : State, exec (.resetLink l tag check) s = .next (Claim.answered l 12 tag .ok [] u)
      ∧ u = { s with stores := u.stores, commit := u.commit, linkA := u.linkA, linkB := u.linkB }
      ∧ (∀ m, m ≠ l → u.link m = s.link m)
      ∧ u.link l = { s.link l with state := .ready, outstanding := none, waiting := [], staging := [], queue := []
                                   overflow := false, mask := 0x3D, capture := none }
      ∧ (∀ p, s.commit = some p → u.commit = if p.link = l then none else s.commit)
      ∧ (s.commit = none → u.commit = none)
      ∧ ∀ n : Trunk, (l = .a → u.stores[n] = { s.stores[n] with wanderA := none })
          ∧ (l = .b → u.stores[n] = { s.stores[n] with wanderB := none })

/-- RESET PART, in every state of its link: the warm reset of every block, one RESET event in each queue, and the answer
(R19, R40, R49, R54, R86, R102, R127, R150, R164, R170, R172). That a framer's stamp and QL last received are 0 after it is the
model's choice (assumption 9, unsafe), and so is that an acquire timeout handed over and not yet taken does not outlive it
(assumption 29, unsafe). -/
def Obligations.ResetOfThePart : Prop :=
  ∀ (l : LinkId) (tag : Octet) (check : Word16) (s : State), Takes s → check = checkFor 12 tag [2] →
    ∃ u : State, exec (.resetPart l tag check) s = .next (Claim.answered l 12 tag .ok [] u)
      ∧ u = { s with framers := u.framers, stores := u.stores, cands := u.cands, sel := u.sel, synth := u.synth
                     linkA := u.linkA, linkB := u.linkB, commit := none, cause := u.cause }
      ∧ u.cause = s.cause ||| (match l with
          | .a => 0x04
          | .b => 0x08)
      ∧ (∀ m, u.link m = { s.link m with
          state := .ready, outstanding := none, waiting := [], staging := [], overflow := false, mask := 0x3D
          capture := none
          queue := [{ kind := .reset, subject := .link l, epoch := s.gen.epoch, detail := u.cause.setWidth 16 }] })
      ∧ (∀ n : Trunk, u.stores[n] = { Store.reset with windowFrom := (s.stores[n]).windowFrom }
          ∧ u.framers[n] = if (s.cfg.trunks[n]).enabled then
              { Framer.reset with state := .noSignal, losFrom := some s.gen.tick } else Framer.reset)
      ∧ (∀ c : Cand, u.cands[c] = Claim.renewed (s.cfg.cands[c]).enabled ∧ u.sel.lockout[c] = false)
      ∧ u.sel.selection = none ∧ u.sel.forced = none ∧ u.sel.manual = none ∧ u.sel.timeouts = []
      ∧ let x := if s.synth.history = 64 then s.synth.h else s.cfg.synth.f0
        u.synth = { s.synth with
          state := if s.synth.history = 64 then .holdover else .freerun
          f := x, i := x, o := 0, buildOut := false, lockCount := 0, lossCount := 0, acquireTimer := 0
          timeoutCount := 0, last := none
          exchangeQl := if s.synth.history = 64 then s.cfg.synth.holdoverQl else s.cfg.synth.freerunQl }

/-- REQUEST_LINE_OCTET_ARRIVAL: outside a request, inside one, at its last check octet, and at a length octet above 64;
INTER_OCTET_TIMER_EXPIRY, which before its time does nothing (assumption 2); and RESPONSE_SENT: the first waiting response
starts, and a link in SERVING with none goes to READY (R151, R152, R153, R154; what sends RESPONSE_SENT is assumption 7, and
that a link in WAITING keeps its state at the end of a sending assumption 8). -/
def Obligations.RequestLineAndResponseSent : Prop :=
  (∀ (l : LinkId) (s : State), Takes s →
    let k := s.link l
    let holding := fun (os : List Octet) (timer : Option Tick) => s.setLink l { k with reception := os, octetFrom := timer }
    let at_ := fun o : Octet => exec (.requestLineOctetArrival l o) s
    (k.reception = [] →
      (∀ o, o ≠ 0x7E → at_ o = .next s) ∧ at_ 0x7E = .next (holding [0x7E] (some s.gen.tick)))
    ∧ (∀ o, k.reception ≠ [] → k.reception.length < 3 → at_ o = .next (holding (k.reception ++ [o]) (some s.gen.tick)))
    ∧ (∀ st kind tag n, k.reception = [st, kind, tag] →
        (n.toNat ≤ 64 → at_ n = .next (holding [st, kind, tag, n] (some s.gen.tick)))
        ∧ (64 < n.toNat → k.state = .ready →
            at_ n = .next (Claim.answered l kind tag .badLength [] (holding [] none)))
        ∧ (64 < n.toNat → k.state ≠ .ready →
            let u := holding [] none
            at_ n = .next (if k.waiting = [] then
              u.setLink l (Claim.sent (u.link l) (Claim.reply u l kind tag .busy [])) else u)))
    ∧ (∀ st kind tag n rest o, k.reception = st :: kind :: tag :: n :: rest → rest.length ≤ n.toNat →
        at_ o = .next (holding (k.reception ++ [o]) (some s.gen.tick)))
    ∧ (∀ st kind tag n body hi lo, k.reception = st :: kind :: tag :: n :: body ++ [hi] → body.length = n.toNat →
        at_ lo = .next (takeRequest l { kind := kind, tag := tag, body := body, check := hi ++ lo } (holding [] none)))
    ∧ ((∀ b, k.octetFrom = some b → (s.gen.tick - b).toNat < 6292) → exec (.interOctetTimerExpiry l) s = .next s)
    ∧ ∀ b, k.octetFrom = some b → 6292 ≤ (s.gen.tick - b).toNat →
        exec (.interOctetTimerExpiry l) s = .next (holding [] none))
  ∧ ∀ (l : LinkId) (s : State), Takes s →
    let k := s.link l
    (k.sending = none → exec (.responseSent l) s = .next s)
    ∧ ∀ r, k.sending = some r →
        (∀ w rest, k.waiting = w :: rest →
          exec (.responseSent l) s = .next (s.setLink l { k with sending := some w, waiting := rest }))
        ∧ (k.waiting = [] →
            exec (.responseSent l) s
              = .next (s.setLink l { k with sending := none, state := if k.state = .serving then .ready else k.state }))

/-! ### What every step keeps -/

/-- Every step keeps the event queues within 32 events, with no overflow flag on an empty queue (R167). -/
def Obligations.StepsKeepTheQueuesFit : Prop :=
  ∀ s t : State, QueuesFit s → step s = .next t → QueuesFit t

/-- Every step keeps the synthesizer and the frame length within their ranges, and the synthesizer in ACQUIRE or LOCKED exactly
while a candidate is selected (7.1, R51, R129, R130, R132, R133, R142). -/
def Obligations.StepsKeepTheSynthesizerSound : Prop :=
  (∀ s t : State, SynthInRange s → step s = .next t → SynthInRange t)
  ∧ ∀ s t : State, SynthFollows s → step s = .next t → SynthFollows t

/-- Every step keeps the stores within their limits and in step with their framers (2.1, 2.2, R2, R20 to R29). -/
def Obligations.StepsKeepTheStoresSound : Prop :=
  ∀ s t : State, StoresSound s → step s = .next t → StoresSound t

/-- Every step keeps standing requests off locked-out candidates and the selection on a candidate that may be followed
(R72, R106, R108, R116). -/
def Obligations.StepsKeepTheSelectorSound : Prop :=
  ∀ s t : State, SelectorSound s → step s = .next t → SelectorSound t
end

