-- ==== Sys2Proof/Laws/State.lean ====
section
/-! SUPPORT. What every named write does to every field of the state, so that no later proof unfolds a record update. -/

namespace Sys2Proof.Machine.State

/-! ### setFramer -/

@[simp] theorem setFramer_gen (s : State) (t : Trunk) (x : Framer) : (s.setFramer t x).gen = s.gen := rfl
@[simp] theorem setFramer_out (s : State) (t : Trunk) (x : Framer) : (s.setFramer t x).out = s.out := rfl
@[simp] theorem setFramer_framers (s : State) (t : Trunk) (x : Framer) : (s.setFramer t x).framers = s.framers.set t x := rfl
@[simp] theorem setFramer_stores (s : State) (t : Trunk) (x : Framer) : (s.setFramer t x).stores = s.stores := rfl
@[simp] theorem setFramer_cands (s : State) (t : Trunk) (x : Framer) : (s.setFramer t x).cands = s.cands := rfl
@[simp] theorem setFramer_sel (s : State) (t : Trunk) (x : Framer) : (s.setFramer t x).sel = s.sel := rfl
@[simp] theorem setFramer_synth (s : State) (t : Trunk) (x : Framer) : (s.setFramer t x).synth = s.synth := rfl
@[simp] theorem setFramer_linkA (s : State) (t : Trunk) (x : Framer) : (s.setFramer t x).linkA = s.linkA := rfl
@[simp] theorem setFramer_linkB (s : State) (t : Trunk) (x : Framer) : (s.setFramer t x).linkB = s.linkB := rfl
@[simp] theorem setFramer_cfg (s : State) (t : Trunk) (x : Framer) : (s.setFramer t x).cfg = s.cfg := rfl
@[simp] theorem setFramer_generation (s : State) (t : Trunk) (x : Framer) : (s.setFramer t x).generation = s.generation := rfl
@[simp] theorem setFramer_commit (s : State) (t : Trunk) (x : Framer) : (s.setFramer t x).commit = s.commit := rfl
@[simp] theorem setFramer_applied (s : State) (t : Trunk) (x : Framer) : (s.setFramer t x).applied = s.applied := rfl
@[simp] theorem setFramer_cause (s : State) (t : Trunk) (x : Framer) : (s.setFramer t x).cause = s.cause := rfl
@[simp] theorem setFramer_pinHeld (s : State) (t : Trunk) (x : Framer) : (s.setFramer t x).pinHeld = s.pinHeld := rfl
@[simp] theorem setFramer_s1 (s : State) (t : Trunk) (x : Framer) : (s.setFramer t x).s1 = s.s1 := rfl
@[simp] theorem setFramer_s2 (s : State) (t : Trunk) (x : Framer) : (s.setFramer t x).s2 = s.s2 := rfl
@[simp] theorem setFramer_free (s : State) (t : Trunk) (x : Framer) : (s.setFramer t x).free = s.free := rfl
@[simp] theorem setFramer_pending (s : State) (t : Trunk) (x : Framer) : (s.setFramer t x).pending = s.pending := rfl
@[simp] theorem setFramer_link (s : State) (t : Trunk) (x : Framer) (l : LinkId) : (s.setFramer t x).link l = s.link l := by cases l <;> rfl

/-! ### setStore -/

@[simp] theorem setStore_gen (s : State) (t : Trunk) (x : Store) : (s.setStore t x).gen = s.gen := rfl
@[simp] theorem setStore_out (s : State) (t : Trunk) (x : Store) : (s.setStore t x).out = s.out := rfl
@[simp] theorem setStore_framers (s : State) (t : Trunk) (x : Store) : (s.setStore t x).framers = s.framers := rfl
@[simp] theorem setStore_stores (s : State) (t : Trunk) (x : Store) : (s.setStore t x).stores = s.stores.set t x := rfl
@[simp] theorem setStore_cands (s : State) (t : Trunk) (x : Store) : (s.setStore t x).cands = s.cands := rfl
@[simp] theorem setStore_sel (s : State) (t : Trunk) (x : Store) : (s.setStore t x).sel = s.sel := rfl
@[simp] theorem setStore_synth (s : State) (t : Trunk) (x : Store) : (s.setStore t x).synth = s.synth := rfl
@[simp] theorem setStore_linkA (s : State) (t : Trunk) (x : Store) : (s.setStore t x).linkA = s.linkA := rfl
@[simp] theorem setStore_linkB (s : State) (t : Trunk) (x : Store) : (s.setStore t x).linkB = s.linkB := rfl
@[simp] theorem setStore_cfg (s : State) (t : Trunk) (x : Store) : (s.setStore t x).cfg = s.cfg := rfl
@[simp] theorem setStore_generation (s : State) (t : Trunk) (x : Store) : (s.setStore t x).generation = s.generation := rfl
@[simp] theorem setStore_commit (s : State) (t : Trunk) (x : Store) : (s.setStore t x).commit = s.commit := rfl
@[simp] theorem setStore_applied (s : State) (t : Trunk) (x : Store) : (s.setStore t x).applied = s.applied := rfl
@[simp] theorem setStore_cause (s : State) (t : Trunk) (x : Store) : (s.setStore t x).cause = s.cause := rfl
@[simp] theorem setStore_pinHeld (s : State) (t : Trunk) (x : Store) : (s.setStore t x).pinHeld = s.pinHeld := rfl
@[simp] theorem setStore_s1 (s : State) (t : Trunk) (x : Store) : (s.setStore t x).s1 = s.s1 := rfl
@[simp] theorem setStore_s2 (s : State) (t : Trunk) (x : Store) : (s.setStore t x).s2 = s.s2 := rfl
@[simp] theorem setStore_free (s : State) (t : Trunk) (x : Store) : (s.setStore t x).free = s.free := rfl
@[simp] theorem setStore_pending (s : State) (t : Trunk) (x : Store) : (s.setStore t x).pending = s.pending := rfl
@[simp] theorem setStore_link (s : State) (t : Trunk) (x : Store) (l : LinkId) : (s.setStore t x).link l = s.link l := by cases l <;> rfl

/-! ### setCand -/

@[simp] theorem setCand_gen (s : State) (c : Cand) (x : Runtime) : (s.setCand c x).gen = s.gen := rfl
@[simp] theorem setCand_out (s : State) (c : Cand) (x : Runtime) : (s.setCand c x).out = s.out := rfl
@[simp] theorem setCand_framers (s : State) (c : Cand) (x : Runtime) : (s.setCand c x).framers = s.framers := rfl
@[simp] theorem setCand_stores (s : State) (c : Cand) (x : Runtime) : (s.setCand c x).stores = s.stores := rfl
@[simp] theorem setCand_cands (s : State) (c : Cand) (x : Runtime) : (s.setCand c x).cands = s.cands.set c x := rfl
@[simp] theorem setCand_sel (s : State) (c : Cand) (x : Runtime) : (s.setCand c x).sel = s.sel := rfl
@[simp] theorem setCand_synth (s : State) (c : Cand) (x : Runtime) : (s.setCand c x).synth = s.synth := rfl
@[simp] theorem setCand_linkA (s : State) (c : Cand) (x : Runtime) : (s.setCand c x).linkA = s.linkA := rfl
@[simp] theorem setCand_linkB (s : State) (c : Cand) (x : Runtime) : (s.setCand c x).linkB = s.linkB := rfl
@[simp] theorem setCand_cfg (s : State) (c : Cand) (x : Runtime) : (s.setCand c x).cfg = s.cfg := rfl
@[simp] theorem setCand_generation (s : State) (c : Cand) (x : Runtime) : (s.setCand c x).generation = s.generation := rfl
@[simp] theorem setCand_commit (s : State) (c : Cand) (x : Runtime) : (s.setCand c x).commit = s.commit := rfl
@[simp] theorem setCand_applied (s : State) (c : Cand) (x : Runtime) : (s.setCand c x).applied = s.applied := rfl
@[simp] theorem setCand_cause (s : State) (c : Cand) (x : Runtime) : (s.setCand c x).cause = s.cause := rfl
@[simp] theorem setCand_pinHeld (s : State) (c : Cand) (x : Runtime) : (s.setCand c x).pinHeld = s.pinHeld := rfl
@[simp] theorem setCand_s1 (s : State) (c : Cand) (x : Runtime) : (s.setCand c x).s1 = s.s1 := rfl
@[simp] theorem setCand_s2 (s : State) (c : Cand) (x : Runtime) : (s.setCand c x).s2 = s.s2 := rfl
@[simp] theorem setCand_free (s : State) (c : Cand) (x : Runtime) : (s.setCand c x).free = s.free := rfl
@[simp] theorem setCand_pending (s : State) (c : Cand) (x : Runtime) : (s.setCand c x).pending = s.pending := rfl
@[simp] theorem setCand_link (s : State) (c : Cand) (x : Runtime) (l : LinkId) : (s.setCand c x).link l = s.link l := by cases l <;> rfl

/-! ### setSel -/

@[simp] theorem setSel_gen (s : State) (x : Selector) : (s.setSel x).gen = s.gen := rfl
@[simp] theorem setSel_out (s : State) (x : Selector) : (s.setSel x).out = s.out := rfl
@[simp] theorem setSel_framers (s : State) (x : Selector) : (s.setSel x).framers = s.framers := rfl
@[simp] theorem setSel_stores (s : State) (x : Selector) : (s.setSel x).stores = s.stores := rfl
@[simp] theorem setSel_cands (s : State) (x : Selector) : (s.setSel x).cands = s.cands := rfl
@[simp] theorem setSel_sel (s : State) (x : Selector) : (s.setSel x).sel = x := rfl
@[simp] theorem setSel_synth (s : State) (x : Selector) : (s.setSel x).synth = s.synth := rfl
@[simp] theorem setSel_linkA (s : State) (x : Selector) : (s.setSel x).linkA = s.linkA := rfl
@[simp] theorem setSel_linkB (s : State) (x : Selector) : (s.setSel x).linkB = s.linkB := rfl
@[simp] theorem setSel_cfg (s : State) (x : Selector) : (s.setSel x).cfg = s.cfg := rfl
@[simp] theorem setSel_generation (s : State) (x : Selector) : (s.setSel x).generation = s.generation := rfl
@[simp] theorem setSel_commit (s : State) (x : Selector) : (s.setSel x).commit = s.commit := rfl
@[simp] theorem setSel_applied (s : State) (x : Selector) : (s.setSel x).applied = s.applied := rfl
@[simp] theorem setSel_cause (s : State) (x : Selector) : (s.setSel x).cause = s.cause := rfl
@[simp] theorem setSel_pinHeld (s : State) (x : Selector) : (s.setSel x).pinHeld = s.pinHeld := rfl
@[simp] theorem setSel_s1 (s : State) (x : Selector) : (s.setSel x).s1 = s.s1 := rfl
@[simp] theorem setSel_s2 (s : State) (x : Selector) : (s.setSel x).s2 = s.s2 := rfl
@[simp] theorem setSel_free (s : State) (x : Selector) : (s.setSel x).free = s.free := rfl
@[simp] theorem setSel_pending (s : State) (x : Selector) : (s.setSel x).pending = s.pending := rfl
@[simp] theorem setSel_link (s : State) (x : Selector) (l : LinkId) : (s.setSel x).link l = s.link l := by cases l <;> rfl

/-! ### setSynth -/

@[simp] theorem setSynth_gen (s : State) (x : Synth) : (s.setSynth x).gen = s.gen := rfl
@[simp] theorem setSynth_out (s : State) (x : Synth) : (s.setSynth x).out = s.out := rfl
@[simp] theorem setSynth_framers (s : State) (x : Synth) : (s.setSynth x).framers = s.framers := rfl
@[simp] theorem setSynth_stores (s : State) (x : Synth) : (s.setSynth x).stores = s.stores := rfl
@[simp] theorem setSynth_cands (s : State) (x : Synth) : (s.setSynth x).cands = s.cands := rfl
@[simp] theorem setSynth_sel (s : State) (x : Synth) : (s.setSynth x).sel = s.sel := rfl
@[simp] theorem setSynth_synth (s : State) (x : Synth) : (s.setSynth x).synth = x := rfl
@[simp] theorem setSynth_linkA (s : State) (x : Synth) : (s.setSynth x).linkA = s.linkA := rfl
@[simp] theorem setSynth_linkB (s : State) (x : Synth) : (s.setSynth x).linkB = s.linkB := rfl
@[simp] theorem setSynth_cfg (s : State) (x : Synth) : (s.setSynth x).cfg = s.cfg := rfl
@[simp] theorem setSynth_generation (s : State) (x : Synth) : (s.setSynth x).generation = s.generation := rfl
@[simp] theorem setSynth_commit (s : State) (x : Synth) : (s.setSynth x).commit = s.commit := rfl
@[simp] theorem setSynth_applied (s : State) (x : Synth) : (s.setSynth x).applied = s.applied := rfl
@[simp] theorem setSynth_cause (s : State) (x : Synth) : (s.setSynth x).cause = s.cause := rfl
@[simp] theorem setSynth_pinHeld (s : State) (x : Synth) : (s.setSynth x).pinHeld = s.pinHeld := rfl
@[simp] theorem setSynth_s1 (s : State) (x : Synth) : (s.setSynth x).s1 = s.s1 := rfl
@[simp] theorem setSynth_s2 (s : State) (x : Synth) : (s.setSynth x).s2 = s.s2 := rfl
@[simp] theorem setSynth_free (s : State) (x : Synth) : (s.setSynth x).free = s.free := rfl
@[simp] theorem setSynth_pending (s : State) (x : Synth) : (s.setSynth x).pending = s.pending := rfl
@[simp] theorem setSynth_link (s : State) (x : Synth) (l : LinkId) : (s.setSynth x).link l = s.link l := by cases l <;> rfl

/-! ### setGen -/

@[simp] theorem setGen_gen (s : State) (x : Generator) : (s.setGen x).gen = x := rfl
@[simp] theorem setGen_out (s : State) (x : Generator) : (s.setGen x).out = s.out := rfl
@[simp] theorem setGen_framers (s : State) (x : Generator) : (s.setGen x).framers = s.framers := rfl
@[simp] theorem setGen_stores (s : State) (x : Generator) : (s.setGen x).stores = s.stores := rfl
@[simp] theorem setGen_cands (s : State) (x : Generator) : (s.setGen x).cands = s.cands := rfl
@[simp] theorem setGen_sel (s : State) (x : Generator) : (s.setGen x).sel = s.sel := rfl
@[simp] theorem setGen_synth (s : State) (x : Generator) : (s.setGen x).synth = s.synth := rfl
@[simp] theorem setGen_linkA (s : State) (x : Generator) : (s.setGen x).linkA = s.linkA := rfl
@[simp] theorem setGen_linkB (s : State) (x : Generator) : (s.setGen x).linkB = s.linkB := rfl
@[simp] theorem setGen_cfg (s : State) (x : Generator) : (s.setGen x).cfg = s.cfg := rfl
@[simp] theorem setGen_generation (s : State) (x : Generator) : (s.setGen x).generation = s.generation := rfl
@[simp] theorem setGen_commit (s : State) (x : Generator) : (s.setGen x).commit = s.commit := rfl
@[simp] theorem setGen_applied (s : State) (x : Generator) : (s.setGen x).applied = s.applied := rfl
@[simp] theorem setGen_cause (s : State) (x : Generator) : (s.setGen x).cause = s.cause := rfl
@[simp] theorem setGen_pinHeld (s : State) (x : Generator) : (s.setGen x).pinHeld = s.pinHeld := rfl
@[simp] theorem setGen_s1 (s : State) (x : Generator) : (s.setGen x).s1 = s.s1 := rfl
@[simp] theorem setGen_s2 (s : State) (x : Generator) : (s.setGen x).s2 = s.s2 := rfl
@[simp] theorem setGen_free (s : State) (x : Generator) : (s.setGen x).free = s.free := rfl
@[simp] theorem setGen_pending (s : State) (x : Generator) : (s.setGen x).pending = s.pending := rfl
@[simp] theorem setGen_link (s : State) (x : Generator) (l : LinkId) : (s.setGen x).link l = s.link l := by cases l <;> rfl

/-! ### setLink -/

@[simp] theorem setLink_gen (s : State) (l : LinkId) (k : Link) : (s.setLink l k).gen = s.gen := by cases l <;> rfl
@[simp] theorem setLink_out (s : State) (l : LinkId) (k : Link) : (s.setLink l k).out = s.out := by cases l <;> rfl
@[simp] theorem setLink_framers (s : State) (l : LinkId) (k : Link) : (s.setLink l k).framers = s.framers := by cases l <;> rfl
@[simp] theorem setLink_stores (s : State) (l : LinkId) (k : Link) : (s.setLink l k).stores = s.stores := by cases l <;> rfl
@[simp] theorem setLink_cands (s : State) (l : LinkId) (k : Link) : (s.setLink l k).cands = s.cands := by cases l <;> rfl
@[simp] theorem setLink_sel (s : State) (l : LinkId) (k : Link) : (s.setLink l k).sel = s.sel := by cases l <;> rfl
@[simp] theorem setLink_synth (s : State) (l : LinkId) (k : Link) : (s.setLink l k).synth = s.synth := by cases l <;> rfl
@[simp] theorem setLink_cfg (s : State) (l : LinkId) (k : Link) : (s.setLink l k).cfg = s.cfg := by cases l <;> rfl
@[simp] theorem setLink_generation (s : State) (l : LinkId) (k : Link) : (s.setLink l k).generation = s.generation := by cases l <;> rfl
@[simp] theorem setLink_commit (s : State) (l : LinkId) (k : Link) : (s.setLink l k).commit = s.commit := by cases l <;> rfl
@[simp] theorem setLink_applied (s : State) (l : LinkId) (k : Link) : (s.setLink l k).applied = s.applied := by cases l <;> rfl
@[simp] theorem setLink_cause (s : State) (l : LinkId) (k : Link) : (s.setLink l k).cause = s.cause := by cases l <;> rfl
@[simp] theorem setLink_pinHeld (s : State) (l : LinkId) (k : Link) : (s.setLink l k).pinHeld = s.pinHeld := by cases l <;> rfl
@[simp] theorem setLink_s1 (s : State) (l : LinkId) (k : Link) : (s.setLink l k).s1 = s.s1 := by cases l <;> rfl
@[simp] theorem setLink_s2 (s : State) (l : LinkId) (k : Link) : (s.setLink l k).s2 = s.s2 := by cases l <;> rfl
@[simp] theorem setLink_free (s : State) (l : LinkId) (k : Link) : (s.setLink l k).free = s.free := by cases l <;> rfl
@[simp] theorem setLink_pending (s : State) (l : LinkId) (k : Link) : (s.setLink l k).pending = s.pending := by cases l <;> rfl
@[simp] theorem setLink_linkA_a (s : State) (k : Link) : (s.setLink .a k).linkA = k := rfl
@[simp] theorem setLink_linkA_b (s : State) (k : Link) : (s.setLink .b k).linkA = s.linkA := rfl
@[simp] theorem setLink_linkB_a (s : State) (k : Link) : (s.setLink .a k).linkB = s.linkB := rfl
@[simp] theorem setLink_linkB_b (s : State) (k : Link) : (s.setLink .b k).linkB = k := rfl
@[simp] theorem link_a (s : State) : s.link .a = s.linkA := rfl
@[simp] theorem link_b (s : State) : s.link .b = s.linkB := rfl
@[simp] theorem link_setLink (s : State) (l : LinkId) (k : Link) : (s.setLink l k).link l = k := by cases l <;> rfl
@[simp] theorem setLink_link (s : State) (l : LinkId) : s.setLink l (s.link l) = s := by cases l <;> rfl
@[simp] theorem setLink_setLink (s : State) (l : LinkId) (j k : Link) :
    (s.setLink l j).setLink l k = s.setLink l k := by cases l <;> rfl

/-- The other link stands as it was. -/
theorem link_setLink_other (s : State) (l m : LinkId) (k : Link) (h : m ≠ l) : (s.setLink l k).link m = s.link m := by
  cases l <;> cases m <;> first | rfl | exact absurd rfl h

/-! ### The station inputs -/

@[simp] theorem setStation_gen (s : State) (i : Station) (x : StationLevel) : (s.setStation i x).gen = s.gen := by
  cases i <;> rfl
@[simp] theorem setStation_out (s : State) (i : Station) (x : StationLevel) : (s.setStation i x).out = s.out := by
  cases i <;> rfl
@[simp] theorem setStation_framers (s : State) (i : Station) (x : StationLevel) : (s.setStation i x).framers = s.framers := by
  cases i <;> rfl
@[simp] theorem setStation_stores (s : State) (i : Station) (x : StationLevel) : (s.setStation i x).stores = s.stores := by
  cases i <;> rfl
@[simp] theorem setStation_cands (s : State) (i : Station) (x : StationLevel) : (s.setStation i x).cands = s.cands := by
  cases i <;> rfl
@[simp] theorem setStation_sel (s : State) (i : Station) (x : StationLevel) : (s.setStation i x).sel = s.sel := by
  cases i <;> rfl
@[simp] theorem setStation_synth (s : State) (i : Station) (x : StationLevel) : (s.setStation i x).synth = s.synth := by
  cases i <;> rfl
@[simp] theorem setStation_linkA (s : State) (i : Station) (x : StationLevel) : (s.setStation i x).linkA = s.linkA := by
  cases i <;> rfl
@[simp] theorem setStation_linkB (s : State) (i : Station) (x : StationLevel) : (s.setStation i x).linkB = s.linkB := by
  cases i <;> rfl
@[simp] theorem setStation_cfg (s : State) (i : Station) (x : StationLevel) : (s.setStation i x).cfg = s.cfg := by
  cases i <;> rfl
@[simp] theorem setStation_generation (s : State) (i : Station) (x : StationLevel) : (s.setStation i x).generation = s.generation := by
  cases i <;> rfl
@[simp] theorem setStation_commit (s : State) (i : Station) (x : StationLevel) : (s.setStation i x).commit = s.commit := by
  cases i <;> rfl
@[simp] theorem setStation_applied (s : State) (i : Station) (x : StationLevel) : (s.setStation i x).applied = s.applied := by
  cases i <;> rfl
@[simp] theorem setStation_cause (s : State) (i : Station) (x : StationLevel) : (s.setStation i x).cause = s.cause := by
  cases i <;> rfl
@[simp] theorem setStation_pinHeld (s : State) (i : Station) (x : StationLevel) : (s.setStation i x).pinHeld = s.pinHeld := by
  cases i <;> rfl
@[simp] theorem setStation_free (s : State) (i : Station) (x : StationLevel) : (s.setStation i x).free = s.free := by
  cases i <;> rfl
@[simp] theorem setStation_pending (s : State) (i : Station) (x : StationLevel) : (s.setStation i x).pending = s.pending := by
  cases i <;> rfl
@[simp] theorem station_setStation (s : State) (i : Station) (x : StationLevel) : (s.setStation i x).station i = x := by
  cases i <;> rfl

end Sys2Proof.Machine.State

namespace Sys2Proof.Machine.Settings

/-! ### The settings the blocks act under at an apply -/

@[simp] theorem withPolicy_trunks (k old : Settings) : (k.withPolicy old).trunks = k.trunks := rfl
@[simp] theorem withPolicy_enabled (k old : Settings) (c : Cand) :
    ((k.withPolicy old).cands[c]).enabled = (k.cands[c]).enabled := by simp [withPolicy]
@[simp] theorem withPolicy_source (k old : Settings) (c : Cand) :
    ((k.withPolicy old).cands[c]).source = (k.cands[c]).source := by simp [withPolicy]
@[simp] theorem withPolicy_priority (k old : Settings) (c : Cand) :
    ((k.withPolicy old).cands[c]).priority = (old.cands[c]).priority := by simp [withPolicy]
@[simp] theorem withPolicy_quality (k old : Settings) :
    (k.withPolicy old).selector.quality = old.selector.quality := rfl
@[simp] theorem withPolicy_revertive (k old : Settings) :
    (k.withPolicy old).selector.revertive = old.selector.revertive := rfl

end Sys2Proof.Machine.Settings
end

