-- ==== Sys2Proof/Laws/Ops.lean ====
section
/-! SUPPORT. What the shared operations can do: events, orders, the taking of a command, the answer to a request. -/

namespace Sys2Proof.Machine

/-! ### Folds -/

/-- A fold keeps what each of its steps keeps. -/
theorem foldl_keeps {α β : Type} (p : β → Prop) (f : β → α → β) (xs : List α) (b : β) (start : p b)
    (keep : ∀ b x, p b → p (f b x)) : p (xs.foldl f b) := by
  induction xs generalizing b with
  | nil => exact start
  | cons x xs ih => exact ih (f b x) (keep b x start)

/-- A fold of steps that change nothing changes nothing. -/
theorem foldl_same {α β : Type} (f : β → α → β) (xs : List α) (b : β) (same : ∀ x ∈ xs, f b x = b) :
    xs.foldl f b = b := by
  induction xs with
  | nil => rfl
  | cons x xs ih =>
    rw [List.foldl_cons, same x (List.mem_cons_self ..)]
    exact ih fun y hy => same y (List.mem_cons_of_mem _ hy)

/-! ### Counters -/

theorem bump_le (limit n : Nat) : bump limit n ≤ limit := by
  unfold bump; split <;> omega

theorem bump_of_lt (limit n : Nat) (h : n < limit) : bump limit n = n + 1 := if_pos h

/-- A bounded history never outgrows its limit. -/
theorem pushBounded_length {α : Type} (limit : Nat) (xs : List α) (x : α) (h : xs.length ≤ limit) (pos : 0 < limit) :
    (pushBounded limit xs x).length ≤ limit := by
  unfold pushBounded
  split <;> simp <;> omega

/-! ### Events (R166, R167) -/

theorem Heard.refl (k : Link) : Heard k k := ⟨[], false, by simp⟩

theorem Heard.trans {a b c : Link} (h : Heard a b) (g : Heard b c) : Heard a c := by
  obtain ⟨q, o, rfl⟩ := h
  obtain ⟨q', o', rfl⟩ := g
  exact ⟨q ++ q', o || o', by simp [Bool.or_assoc]⟩

theorem offer_heard (k : Link) (e : Event) : Heard k (k.offer e) := by
  unfold Link.offer
  split
  · split
    · exact ⟨[e], false, by simp⟩
    · exact ⟨[], true, by simp⟩
  · exact Heard.refl k

/-- An event keeps a queue within its limits (R167). -/
theorem offer_fits (k : Link) (e : Event) (h : k.queueFits) : (k.offer e).queueFits := by
  obtain ⟨len, full⟩ := h
  unfold Link.offer
  split
  · split
    · exact ⟨by simp; omega, by simp⟩
    · exact ⟨len, fun _ hq => by simp_all⟩
  · exact ⟨len, full⟩

section raise
variable (kind : EventKind) (subject : Subject) (detail : Word16) (s : State)

@[simp] theorem raise_gen : (raise kind subject detail s).gen = s.gen := rfl
@[simp] theorem raise_out : (raise kind subject detail s).out = s.out := rfl
@[simp] theorem raise_framers : (raise kind subject detail s).framers = s.framers := rfl
@[simp] theorem raise_stores : (raise kind subject detail s).stores = s.stores := rfl
@[simp] theorem raise_cands : (raise kind subject detail s).cands = s.cands := rfl
@[simp] theorem raise_sel : (raise kind subject detail s).sel = s.sel := rfl
@[simp] theorem raise_synth : (raise kind subject detail s).synth = s.synth := rfl
@[simp] theorem raise_cfg : (raise kind subject detail s).cfg = s.cfg := rfl
@[simp] theorem raise_generation : (raise kind subject detail s).generation = s.generation := rfl
@[simp] theorem raise_commit : (raise kind subject detail s).commit = s.commit := rfl
@[simp] theorem raise_applied : (raise kind subject detail s).applied = s.applied := rfl
@[simp] theorem raise_cause : (raise kind subject detail s).cause = s.cause := rfl
@[simp] theorem raise_pinHeld : (raise kind subject detail s).pinHeld = s.pinHeld := rfl
@[simp] theorem raise_s1 : (raise kind subject detail s).s1 = s.s1 := rfl
@[simp] theorem raise_s2 : (raise kind subject detail s).s2 = s.s2 := rfl
@[simp] theorem raise_free : (raise kind subject detail s).free = s.free := rfl
@[simp] theorem raise_pending : (raise kind subject detail s).pending = s.pending := rfl

/-- Both links are offered one event, with the generator's epoch (R166, R167). -/
theorem raise_link (l : LinkId) :
    (raise kind subject detail s).link l
      = (s.link l).offer { kind := kind, subject := subject, epoch := s.gen.epoch, detail := detail } := by
  cases l <;> rfl

/-- An event changes the two queues and nothing else. -/
theorem raise_shape : ∃ a b, raise kind subject detail s = { s with linkA := a, linkB := b }
    ∧ Heard s.linkA a ∧ Heard s.linkB b :=
  ⟨_, _, rfl, offer_heard .., offer_heard ..⟩

end raise

/-! ### Orders (assumption 3) -/

/-- Every order number arranges a list. -/
theorem arrange_perm {α : Type} (k n : Nat) (xs : List α) : (arrange k n xs).Perm xs := by
  induction k generalizing n xs with
  | zero => exact List.Perm.refl xs
  | succ k ih =>
    unfold arrange
    split
    · exact List.Perm.refl xs
    · rename_i x hx
      obtain ⟨hi, rfl⟩ := List.getElem?_eq_some_iff.mp hx
      exact ((ih _ _).cons _).trans (List.getElem_cons_eraseIdx_perm hi)

/-- Every arrangement of a list is picked by some order number. -/
theorem arrange_surjective {α : Type} (ys xs : List α) (h : ys.Perm xs) : ∃ n, arrange xs.length n xs = ys := by
  induction ys generalizing xs with
  | nil =>
    obtain rfl : xs = [] := List.nil_perm.mp h
    exact ⟨0, rfl⟩
  | cons y ys ih =>
    obtain ⟨i, hi, rfl⟩ := List.getElem_of_mem (h.subset (List.mem_cons_self ..))
    have hp : ys.Perm (xs.eraseIdx i) := (h.trans (List.getElem_cons_eraseIdx_perm hi).symm).cons_inv
    obtain ⟨n, hn⟩ := ih _ hp
    refine ⟨n * xs.length + i, ?_⟩
    have len : xs.length = (xs.eraseIdx i).length + 1 := by rw [List.length_eraseIdx_of_lt hi]; omega
    have mod : (n * xs.length + i) % xs.length = i := by
      rw [Nat.add_comm, Nat.add_mul_mod_self_right, Nat.mod_eq_of_lt hi]
    have div : (n * xs.length + i) / xs.length = n := by
      rw [Nat.add_comm, Nat.add_mul_div_right _ _ (by omega), Nat.div_eq_of_lt hi, Nat.zero_add]
    refine (congrArg (fun k => arrange k (n * xs.length + i) xs) len).trans ?_
    simp [arrange, mod, div, hi, hn]

theorem inOrder_perm {α : Type} (n : Nat) (xs : List α) : (inOrder n xs).Perm xs := arrange_perm _ _ _

/-- Every order of a list is some number's order. -/
theorem inOrder_surjective {α : Type} {ys xs : List α} (h : ys.Perm xs) : ∃ n, inOrder n xs = ys :=
  arrange_surjective ys xs h

/-- Every order of a frame start's units with the length before the sample is some operand's (R130; assumption 3). -/
theorem unitOrder_surjective {us : List FrameUnit} (multiframe : Bool) (h : us.Perm (frameUnits multiframe))
    (first : multiframe = true → us.idxOf .length < us.idxOf .sample) : ∃ ord, unitOrder ord multiframe = us := by
  obtain ⟨ord, hord⟩ := inOrder_surjective h
  refine ⟨ord, ?_⟩
  unfold unitOrder
  simp only [hord]
  split
  · rename_i m
    exact if_neg (Nat.not_lt.mpr (Nat.le_of_lt (first m)))
  · rfl

/-! ### The taking of a command (assumption 4) -/

theorem endWindow_notDue (c : Cand) (s : State) (h : windowEndDue s c = false) : endWindow c s = s := by
  simp [endWindow, h]

theorem completeCapture_notHanded (l : LinkId) (s : State) (h : handedCapture (s.link l) = none) :
    completeCapture l s = s := by
  simp [completeCapture, h]

/-- In a settled state nothing is left over from the step before. -/
theorem runOn_settled (s : State) (h : Settled s) : runOn s = s := by
  have hw : forCands endWindow s = s := foldl_same _ _ _ fun c _ => endWindow_notDue c s (h.1 c)
  have hc := fun l => completeCapture_notHanded l s (h.2 l)
  simp [runOn, hw, hc]

theorem taken_takes (f : State → State) (s : State) (h : Takes s) : taken f s = .next (f s) := by
  have hp : s.pinHeld = false := h.1
  simp [taken, hp, runOn_settled s h.2]

theorem takenAlone_running (f : State → State) (s : State) (h : Running s) : takenAlone f s = .next (f s) := by
  have hp : s.pinHeld = false := h
  simp [takenAlone, hp]

theorem taken_held (f : State → State) (s : State) (h : s.pinHeld = true) : taken f s = .next s := by simp [taken, h]

/-! ### Answers (R151, R153, R154) -/

/-- A READY link takes a request with a right check (R151, R153). -/
theorem request_ready (l : LinkId) (kind tag : Octet) (body : List Octet) (check : Word16) (s : State)
    (ready : Ready s l) (right : check = checkFor kind tag body) :
    request l kind tag body check s
      = .next (handleKind l { kind := kind, tag := tag, body := body, check := check } s) := by
  have rc : Request.rightCheck { kind := kind, tag := tag, body := body, check := check } = check := right.symm
  rw [request, taken_takes _ _ ready.1]
  simp [takeRequest, ready.2, rc]

/-- A request with a wrong check is answered BAD-CHECK by a READY link, and nothing else happens (R153). -/
theorem request_badCheck (l : LinkId) (kind tag : Octet) (body : List Octet) (check : Word16) (s : State)
    (ready : Ready s l) (wrong : check ≠ checkFor kind tag body) :
    request l kind tag body check s
      = .next (answer l { kind := kind, tag := tag, body := body, check := check } .badCheck [] s) := by
  have rc : Request.rightCheck { kind := kind, tag := tag, body := body, check := check } ≠ check := fun h => wrong h.symm
  rw [request, taken_takes _ _ ready.1]
  simp [takeRequest, ready.2, rc]

end Sys2Proof.Machine
end

