-- ==== Sys2Proof/Laws/Shapes.lean ====
section
/-! SUPPORT. What each shared operation may change of the state: the queues, the selection and the synthesizer, the
candidates, the framers and the stores. -/

namespace Sys2Proof.Machine

/-! ### The four reaches of an operation -/

/-- Only the event queues may differ. -/
def Reports (s t : State) : Prop :=
  t = { s with linkA := t.linkA, linkB := t.linkB } ∧ Heard s.linkA t.linkA ∧ Heard s.linkB t.linkB

/-- The selector, the synthesizer and the event queues may differ. -/
def Steers (s t : State) : Prop :=
  t = { s with sel := t.sel, synth := t.synth, linkA := t.linkA, linkB := t.linkB }
    ∧ Heard s.linkA t.linkA ∧ Heard s.linkB t.linkB

/-- The candidates may differ too. -/
def Grades (s t : State) : Prop :=
  t = { s with cands := t.cands, sel := t.sel, synth := t.synth, linkA := t.linkA, linkB := t.linkB }
    ∧ Heard s.linkA t.linkA ∧ Heard s.linkB t.linkB

/-- The framers and the stores may differ too. -/
def Works (s t : State) : Prop :=
  t = { s with framers := t.framers, stores := t.stores, cands := t.cands, sel := t.sel, synth := t.synth
               linkA := t.linkA, linkB := t.linkB }
    ∧ Heard s.linkA t.linkA ∧ Heard s.linkB t.linkB

theorem Reports.steers {s t : State} (h : Reports s t) : Steers s t := ⟨by rw [h.1], h.2⟩
theorem Steers.grades {s t : State} (h : Steers s t) : Grades s t := ⟨by rw [h.1], h.2⟩
theorem Grades.works {s t : State} (h : Grades s t) : Works s t := ⟨by rw [h.1], h.2⟩
theorem Reports.grades {s t : State} (h : Reports s t) : Grades s t := h.steers.grades
theorem Steers.works {s t : State} (h : Steers s t) : Works s t := h.grades.works
theorem Reports.works {s t : State} (h : Reports s t) : Works s t := h.grades.works

theorem Reports.refl (s : State) : Reports s s := ⟨rfl, Heard.refl _, Heard.refl _⟩
theorem Steers.refl (s : State) : Steers s s := (Reports.refl s).steers
theorem Grades.refl (s : State) : Grades s s := (Steers.refl s).grades
theorem Works.refl (s : State) : Works s s := (Grades.refl s).works

theorem Reports.trans {s t u : State} (h : Reports s t) (g : Reports t u) : Reports s u := by
  refine ⟨?_, h.2.1.trans g.2.1, h.2.2.trans g.2.2⟩
  rw [g.1, h.1]

theorem Steers.trans {s t u : State} (h : Steers s t) (g : Steers t u) : Steers s u := by
  refine ⟨?_, h.2.1.trans g.2.1, h.2.2.trans g.2.2⟩
  rw [g.1, h.1]

theorem Grades.trans {s t u : State} (h : Grades s t) (g : Grades t u) : Grades s u := by
  refine ⟨?_, h.2.1.trans g.2.1, h.2.2.trans g.2.2⟩
  rw [g.1, h.1]

theorem Works.trans {s t u : State} (h : Works s t) (g : Works t u) : Works s u := by
  refine ⟨?_, h.2.1.trans g.2.1, h.2.2.trans g.2.2⟩
  rw [g.1, h.1]

/-! ### The named writes -/

theorem setSel_steers (s : State) (x : Selector) : Steers s (s.setSel x) := ⟨rfl, Heard.refl _, Heard.refl _⟩
theorem setSynth_steers (s : State) (x : Synth) : Steers s (s.setSynth x) := ⟨rfl, Heard.refl _, Heard.refl _⟩
theorem setCand_grades (s : State) (c : Cand) (x : Runtime) : Grades s (s.setCand c x) :=
  ⟨rfl, Heard.refl _, Heard.refl _⟩
theorem setFramer_works (s : State) (t : Trunk) (x : Framer) : Works s (s.setFramer t x) :=
  ⟨rfl, Heard.refl _, Heard.refl _⟩
theorem setStore_works (s : State) (t : Trunk) (x : Store) : Works s (s.setStore t x) :=
  ⟨rfl, Heard.refl _, Heard.refl _⟩

theorem raise_reports (kind : EventKind) (subject : Subject) (detail : Word16) (s : State) :
    Reports s (raise kind subject detail s) := ⟨rfl, offer_heard .., offer_heard ..⟩

/-- A fold of steps of one reach has that reach. -/
theorem foldl_reach {α : Type} (r : State → State → Prop) (refl : ∀ s, r s s)
    (trans : ∀ {s t u}, r s t → r t u → r s u) (f : State → α → State) (step : ∀ s x, r s (f s x)) (xs : List α)
    (s : State) : r s (xs.foldl f s) :=
  foldl_keeps (fun t => r s t) f xs s (refl s) fun t x h => trans h (step t x)

theorem forCands_grades (f : Cand → State → State) (h : ∀ c s, Grades s (f c s)) (s : State) :
    Grades s (forCands f s) :=
  foldl_reach Grades Grades.refl Grades.trans _ (fun s c => h c s) _ s

/-! ### The synthesizer and the selector -/

theorem recomputeQl_steers (s : State) : Steers s (recomputeQl s) := setSynth_steers ..

theorem enterSynth_steers (new : SynthState) (s : State) : Steers s (enterSynth new s) := by
  unfold enterSynth
  refine Steers.trans ?_ (recomputeQl_steers _)
  split
  · exact setSynth_steers ..
  · exact (setSynth_steers ..).trans (raise_reports ..).steers

theorem acquireSelection_steers (s : State) : Steers s (acquireSelection s) :=
  (setSynth_steers ..).trans (enterSynth_steers ..)

theorem loseSelection_steers (s : State) : Steers s (loseSelection s) := by
  unfold loseSelection
  split
  · exact Steers.refl s
  · exact Steers.refl s
  · exact (setSynth_steers ..).trans (enterSynth_steers ..)
  · exact (setSynth_steers ..).trans (enterSynth_steers ..)

theorem followSelection_steers (s : State) : Steers s (followSelection s) := by
  unfold followSelection
  split
  · exact acquireSelection_steers s
  · exact loseSelection_steers s

theorem select_steers (reason : Nat) (subject : Subject) (new : Option Cand) (s : State) :
    Steers s (select reason subject new s) := by
  unfold select
  dsimp only
  split
  · exact Steers.refl s
  · exact (setSel_steers ..).trans ((raise_reports ..).steers.trans (followSelection_steers _))

theorem dropForcedIf_steers (p : Cand → Bool) (cause : DropCause) (s : State) :
    Steers s (dropForcedIf p cause s) := by
  unfold dropForcedIf
  split
  · exact (setSel_steers ..).trans (raise_reports ..).steers
  · exact Steers.refl s

theorem dropManualIf_steers (p : Cand → Bool) (cause : DropCause) (s : State) :
    Steers s (dropManualIf p cause s) := by
  unfold dropManualIf
  split
  · exact (setSel_steers ..).trans (raise_reports ..).steers
  · exact Steers.refl s

/-- An evaluation acts on the selector, the synthesizer and the queues (R106, R108). -/
theorem evaluate_steers (why : EvalCause) (ret : Option Cand) (s : State) : Steers s (evaluate why ret s) :=
  (dropManualIf_steers ..).trans (select_steers ..)

/-! ### Qualification and the monitors -/

theorem setLoop_grades (c : Cand) (v : Bool) (s : State) : Grades s (setLoop c v s) := setCand_grades ..

theorem setClass_grades (c : Cand) (new : Fin 8) (s : State) : Grades s (setClass c new s) := by
  unfold setClass
  dsimp only
  split
  · exact Grades.refl s
  · exact (setCand_grades ..).trans (raise_reports ..).grades

theorem tellLoss_grades (c : Cand) (s : State) : Grades s (tellLoss c s) := by
  unfold tellLoss
  split
  · exact Grades.refl s
  · exact (setCand_grades ..).trans (raise_reports ..).grades

theorem grade_grades (c : Cand) (s : State) : Grades s (grade c s) := by
  unfold grade
  split
  · exact (setLoop_grades ..).trans (setClass_grades ..)
  · split
    · dsimp only
      refine Grades.trans ?_ (setClass_grades ..)
      split
      · exact setLoop_grades ..
      · exact (setLoop_grades ..).trans (raise_reports ..).grades
    · exact (setLoop_grades ..).trans (setClass_grades ..)

theorem gradeCandidate_grades (c : Cand) (s : State) : Grades s (gradeCandidate c s) := by
  unfold gradeCandidate
  split
  · exact (tellLoss_grades ..).trans (grade_grades ..)
  · exact Grades.refl s

theorem classEvaluation_grades (s : State) : Grades s (classEvaluation s) :=
  (forCands_grades _ gradeCandidate_grades s).trans (evaluate_steers ..).grades

theorem loseClass_grades (c : Cand) (s : State) : Grades s (loseClass c s) := by
  unfold loseClass
  dsimp only
  split
  · exact setCand_grades ..
  · exact setClass_grades ..

theorem loseActivity_grades (c : Cand) (s : State) : Grades s (loseActivity c s) := by
  unfold loseActivity
  have h := (setLoop_grades c false s).trans (loseClass_grades c _)
  dsimp only
  split
  · exact h.trans (evaluate_steers ..).grades
  · exact h

theorem goInactive_grades (c : Cand) (s : State) : Grades s (goInactive c s) := by
  unfold goInactive
  dsimp only
  split
  · exact (setCand_grades ..).trans ((raise_reports ..).grades.trans (loseActivity_grades ..))
  · exact Grades.refl s

/-- Telling the monitors of a trunk of a loss of alignment acts on candidates, selection, synthesizer and queues (R17). -/
theorem tellMonitors_grades (t : Trunk) (s : State) : Grades s (tellMonitors t s) :=
  forCands_grades _ (fun c s => by
    split
    · exact goInactive_grades ..
    · exact Grades.refl s) s

theorem takeMarker_grades (c : Cand) (stamp : Tick) (s : State) : Grades s (takeMarker c stamp s) := by
  unfold takeMarker
  dsimp only
  split
  · exact Grades.refl s
  · exact (setCand_grades ..).trans (raise_reports ..).grades
  all_goals exact setCand_grades ..

theorem raiseMarker_grades (src : Source) (stamp : Tick) (s : State) : Grades s (raiseMarker src stamp s) :=
  forCands_grades _ (fun c s => by
    split
    · exact takeMarker_grades ..
    · exact Grades.refl s) s

theorem endWindow_grades (c : Cand) (s : State) : Grades s (endWindow c s) := by
  unfold endWindow
  split
  · dsimp only
    split
    · exact setCand_grades ..
    · exact (setCand_grades ..).trans (raise_reports ..).grades
  · exact Grades.refl s

theorem restartCandidate_grades (enabled : Bool) (c : Cand) (s : State) : Grades s (restartCandidate enabled c s) :=
  (setCand_grades ..).trans (raise_reports ..).grades

theorem resetCandidate_grades (old new : CandConfig) (c : Cand) (s : State) :
    Grades s (resetCandidate old new c s) := by
  unfold resetCandidate
  split
  · exact Grades.refl s
  · refine Grades.trans ?_ (restartCandidate_grades ..)
    split
    · exact Grades.refl s
    · exact tellLoss_grades ..

theorem countWaitsAt_grades (e : Epoch) (s : State) : Grades s (countWaitsAt e s) :=
  forCands_grades _ (fun _ _ => setCand_grades ..) s

theorem countWaits_grades (s : State) : Grades s (countWaits s) := countWaitsAt_grades ..

/-- WAIT_END acts on the waits of the candidates alone (R121). -/
theorem endWait_grades (c : Cand) (s : State) : Grades s (endWait c s) := by
  unfold endWait
  split
  · exact countWaitsAt_grades ..
  · exact Grades.refl s

theorem takeTimeout_grades (c : Cand) (s : State) : Grades s (takeTimeout c s) := by
  unfold takeTimeout
  have h := setCand_grades s c { s.cands[c] with lockFail := true }
  dsimp only
  split
  · exact h
  · refine Grades.trans ?_ (evaluate_steers ..).grades
    split
    · exact h.trans (setCand_grades ..)
    · exact h

theorem takeHandedTimeout_grades (s : State) : Grades s (takeHandedTimeout s) := by
  unfold takeHandedTimeout
  split
  · exact Grades.refl s
  · exact (setSel_steers ..).grades.trans (takeTimeout_grades ..)

theorem timeOut_steers (c : Cand) (s : State) : Steers s (timeOut c s) := by
  have h := raise_reports .acquireTimeout (.candidate c) (BitVec.ofNat 16 (bump 65535 s.synth.timeoutCount)) s
  exact ⟨rfl, h.2⟩

theorem countAcquire_grades (c : Cand) (s : State) : Grades s (countAcquire c s) := by
  unfold countAcquire
  dsimp only
  generalize (if s.synth.lastD.natAbs ≤ 4 then bump 8 s.synth.lockCount else 0) = lock
  split
  · exact (setSynth_steers ..).grades.trans ((setSynth_steers ..).grades.trans
      ((enterSynth_steers ..).grades.trans (setCand_grades ..)))
  · split
    · exact (setSynth_steers ..).grades.trans (timeOut_steers ..).grades
    · exact (setSynth_steers ..).grades

theorem countLocked_steers (c : Cand) (s : State) : Steers s (countLocked c s) := by
  unfold countLocked
  dsimp only
  generalize (if 32 < s.synth.lastD.natAbs then bump 2 s.synth.lossCount else 0) = loss
  split
  · exact (setSynth_steers ..).trans (enterSynth_steers ..)
  · unfold recordHistory
    dsimp only
    split
    · exact (setSynth_steers ..).trans ((setSynth_steers ..).trans (raise_reports ..).steers)
    · exact (setSynth_steers ..).trans (setSynth_steers ..)

theorem phaseSample_grades (s : State) : Grades s (phaseSample s) := by
  unfold phaseSample
  split
  · exact Grades.refl s
  · split
    · exact Grades.refl s
    · dsimp only
      split
      · exact Grades.trans (setSynth_steers s _).grades (countAcquire_grades ..)
      · exact Grades.trans (setSynth_steers s _).grades (countLocked_steers ..).grades
      · exact Grades.refl s
      · exact Grades.refl s

/-! ### The stores and the framers -/

theorem slip_works (t : Trunk) (kind : SlipKind) (held : Nat) (s : State) : Works s (slip t kind held s) := by
  unfold slip
  have h : ∀ x d, Works s (raise .slip (.trunk t) d (s.setStore t x)) := fun x d =>
    (setStore_works ..).trans (raise_reports ..).works
  dsimp only
  split
  · exact (h ..).trans (raise_reports ..).works
  · exact h ..

/-- A completed frame record acts on its store and the queues (R23, R24, R25). -/
theorem storeArrival_works (t : Trunk) (r : FrameRecord) (s : State) : Works s (storeArrival t r s) := by
  unfold storeArrival
  dsimp only
  split
  · exact Works.refl s
  · exact setStore_works ..
  · split
    · exact setStore_works ..
    · exact (setStore_works ..).trans (slip_works ..)

theorem raiseAlarmFrom_reports (t : Trunk) (before : Nat) (s : State) : Reports s (raiseAlarmFrom t before s) := by
  unfold raiseAlarmFrom
  dsimp only
  split
  · exact Reports.refl s
  · exact raise_reports ..

/-- Leaving alignment acts on the framer, its store, its candidates, the selection and the queues (R17). -/
theorem leaveAligned_works (t : Trunk) (new : FramerState) (before : Option Nat) (s : State) :
    Works s (leaveAligned t new before s) := by
  unfold leaveAligned
  have h : ∀ x, Works s (raiseTrunkState t s.framers[t].state new
      ((tellMonitors t (s.setStore t s.stores[t].flush)).setFramer t x)) := fun x =>
    (setStore_works ..).trans ((tellMonitors_grades ..).works.trans ((setFramer_works ..).trans (raise_reports ..).works))
  dsimp only
  split
  · exact (h _).trans (raiseAlarmFrom_reports ..).works
  · exact h _

theorem completeFrame_works (t : Trunk) (a : Alignment) (octets : List Octet) (before : Nat) (s : State) :
    Works s (completeFrame t a octets before s) := by
  unfold completeFrame
  have h : ∀ x r F, Works s (recomputeQl ((storeArrival t r (s.setStore t x)).setFramer t F)) := fun x r F =>
    (setStore_works ..).trans ((storeArrival_works ..).trans ((setFramer_works ..).trans (recomputeQl_steers _).works))
  dsimp only
  split
  · exact (h ..).trans (leaveAligned_works ..)
  · exact (h ..).trans (raiseAlarmFrom_reports ..).works

theorem joinFrame_works (t : Trunk) (o : Octet) (s : State) : Works s (joinFrame t o s) := setStore_works ..

theorem alignedOctet_works (t : Trunk) (a : Alignment) (o : Octet) (before : Nat) (s : State) :
    Works s (alignedOctet t a o before s) := by
  unfold alignedOctet
  dsimp only
  split
  · exact (setFramer_works ..).trans (joinFrame_works ..)
  · exact (setFramer_works ..).trans ((joinFrame_works ..).trans (raiseMarker_grades ..).works)
  · split
    · exact joinFrame_works ..
    · exact completeFrame_works ..

theorem enterAligned_works (t : Trunk) (f : Fin 16) (o : Octet) (s : State) : Works s (enterAligned t f o s) :=
  (setFramer_works ..).trans ((raise_reports ..).works.trans ((setStore_works ..).trans (raiseMarker_grades ..).works))

theorem handleOctet_works (t : Trunk) (o : Octet) (before : Nat) (s : State) :
    Works s (handleOctet t o before s) := by
  unfold handleOctet
  dsimp only
  split
  · exact Works.refl s
  · exact (setFramer_works ..).trans (raise_reports ..).works
  · exact setFramer_works ..
  · unfold confirmOctet
    dsimp only
    split
    · split
      · exact setFramer_works ..
      · exact enterAligned_works ..
    · exact setFramer_works ..
  · exact alignedOctet_works ..

/-- An octet's arrival acts on its framer and store, and through them on candidates, selection and queues (R1). -/
theorem octetArrival_works (t : Trunk) (o : Octet) (s : State) : Works s (octetArrival t o s) := by
  unfold octetArrival
  dsimp only
  split
  · exact Works.refl s
  · split
    · exact (setFramer_works ..).trans (handleOctet_works ..)
    · exact (setFramer_works ..).trans ((raiseAlarmFrom_reports ..).works.trans (handleOctet_works ..))

theorem expireSignal_works (t : Trunk) (s : State) : Works s (expireSignal t s) := by
  unfold expireSignal
  have out : ∀ x y a b, Works s (raiseAlarmFrom t a (raiseTrunkState t b .noSignal ((s.setFramer t x).setFramer t y))) :=
    fun x y a b => (setFramer_works ..).trans ((setFramer_works ..).trans ((raise_reports ..).works.trans
      (raiseAlarmFrom_reports ..).works))
  split
  · dsimp only
    split
    · exact Works.refl s
    · exact (setFramer_works ..).trans (raiseAlarmFrom_reports ..).works
    · exact out ..
    · exact out ..
    · exact (setFramer_works ..).trans (leaveAligned_works ..)
  · exact Works.refl s

theorem enableTrunk_works (t : Trunk) (w : Bool) (s : State) : Works s (enableTrunk t w s) :=
  (setFramer_works ..).trans ((setStore_works ..).trans (raise_reports ..).works)

theorem disableTrunk_works (t : Trunk) (s : State) : Works s (disableTrunk t s) := by
  unfold disableTrunk
  have first : Works s (if s.framers[t].state.isAligned then leaveAligned t .off none s
      else raiseTrunkState t s.framers[t].state .off s) := by
    split
    · exact leaveAligned_works ..
    · exact (raise_reports ..).works
  dsimp only
  generalize (if s.framers[t].state.isAligned then leaveAligned t .off none s
      else raiseTrunkState t s.framers[t].state .off s) = u at first ⊢
  refine first.trans ((setFramer_works u t { Framer.reset with alignErrors := u.framers[t].alignErrors }).trans ?_)
  generalize u.setFramer t _ = v
  have h := (raiseAlarmFrom_reports t s.framers[t].alarms v).works
  generalize raiseAlarmFrom t s.framers[t].alarms v = w at h ⊢
  split
  · exact h.trans ((setStore_works ..).trans (raise_reports ..).works)
  · exact h.trans (setStore_works ..)

theorem restartTrunk_works (t : Trunk) (s : State) : Works s (restartTrunk t s) := by
  unfold restartTrunk
  dsimp only
  split
  · exact Works.refl s
  · exact Works.refl s
  · exact setFramer_works ..
  · exact setFramer_works ..
  · exact leaveAligned_works ..

end Sys2Proof.Machine
end

