-- ==== Sys2Proof/Laws/Keeps.lean ====
section
/-! SUPPORT. No operation touches the queue of commands, the draws made from the free orders, or the reset pin. -/

namespace Sys2Proof.Machine

/-- The queue of commands, the count of draws and the reset pin are as they were. -/
def Keeps (s t : State) : Prop := t.pending = s.pending ∧ t.free = s.free ∧ t.pinHeld = s.pinHeld

theorem Keeps.refl (s : State) : Keeps s s := ⟨rfl, rfl, rfl⟩

theorem Keeps.trans {s t u : State} (h : Keeps s t) (g : Keeps t u) : Keeps s u :=
  ⟨g.1.trans h.1, g.2.1.trans h.2.1, g.2.2.trans h.2.2⟩

theorem Works.keeps {s t : State} (h : Works s t) : Keeps s t := by
  rw [h.1]; exact ⟨rfl, rfl, rfl⟩

theorem Grades.keeps {s t : State} (h : Grades s t) : Keeps s t := h.works.keeps
theorem Steers.keeps {s t : State} (h : Steers s t) : Keeps s t := h.works.keeps
theorem Reports.keeps {s t : State} (h : Reports s t) : Keeps s t := h.works.keeps

theorem foldl_keepsQueue {α : Type} (f : State → α → State) (step : ∀ s x, Keeps s (f s x)) (xs : List α) (s : State) :
    Keeps s (xs.foldl f s) := foldl_reach Keeps Keeps.refl Keeps.trans f step xs s

/-! ### Links -/

theorem setLink_keeps (l : LinkId) (k : Link) (s : State) : Keeps s (s.setLink l k) := by cases l <;> exact ⟨rfl, rfl, rfl⟩

theorem answer_keeps (l : LinkId) (q : Request) (status : Status) (body : List Octet) (s : State) :
    Keeps s (answer l q status body s) := setLink_keeps ..

theorem answerAside_keeps (l : LinkId) (q : Request) (status : Status) (s : State) :
    Keeps s (answerAside l q status s) := by
  unfold answerAside
  split
  · exact setLink_keeps ..
  · exact Keeps.refl s

theorem complete_keeps (l : LinkId) (o : Outstanding) (body : List Octet) (s : State) :
    Keeps s (complete l o body s) := setLink_keeps ..

theorem await_keeps (l : LinkId) (q : Request) (w : Work) (s : State) : Keeps s (await l q w s) := setLink_keeps ..

theorem completeCapture_keeps (l : LinkId) (s : State) : Keeps s (completeCapture l s) := by
  unfold completeCapture
  split
  · exact Keeps.refl s
  · exact (setLink_keeps ..).trans (complete_keeps ..)

theorem forCands_endWindow_grades (s : State) : Grades s (forCands endWindow s) :=
  forCands_grades _ endWindow_grades s

theorem runOn_keeps (s : State) : Keeps s (runOn s) :=
  (forCands_endWindow_grades s).keeps.trans ((completeCapture_keeps ..).trans (completeCapture_keeps ..))

theorem afterRead_keeps (l : LinkId) (it : StatusItem) (s : State) : Keeps s (afterRead l it s) := by
  unfold afterRead
  split <;> exact ⟨rfl, rfl, rfl⟩

theorem handleRead_keeps (l : LinkId) (q : Request) (code i1 i2 selector : Octet) (s : State) :
    Keeps s (handleRead l q code i1 i2 selector s) := by
  unfold handleRead
  split
  · split
    · exact answer_keeps ..
    · split <;> exact answer_keeps ..
  · split
    · exact (afterRead_keeps ..).trans (answer_keeps ..)
    · split <;> exact answer_keeps ..
  · exact answer_keeps ..

theorem handleStage_keeps (l : LinkId) (q : Request) (code i1 i2 : Octet) (value : List Octet) (s : State) :
    Keeps s (handleStage l q code i1 i2 value s) := by
  unfold handleStage
  split
  · exact answer_keeps ..
  · split
    · exact answer_keeps ..
    · split
      · exact answer_keeps ..
      · exact (setLink_keeps ..).trans (answer_keeps ..)

theorem setCommit_keeps (s : State) (x : Option PendingCommit) : Keeps s { s with commit := x } := ⟨rfl, rfl, rfl⟩
theorem setCause_keeps (s : State) (x : Octet) : Keeps s { s with cause := x } := ⟨rfl, rfl, rfl⟩

theorem handleCommit_keeps (l : LinkId) (q : Request) (expected : Word16) (s : State) :
    Keeps s (handleCommit l q expected s) := by
  unfold handleCommit
  split
  · exact answer_keeps ..
  · exact (setCommit_keeps s _).trans (await_keeps ..)

/-- A SWITCH action acts on the candidates, the selector, the synthesizer and the queues (6.4). -/
theorem switchAction_grades (l : LinkId) (action operand option : Octet) (s : State) :
    Grades s (switchAction l action operand option s).2 := by
  have on : ∀ (f : Cand → State → Status × State), (∀ c, Grades s (f c s).2) → Grades s (onCandidate operand f s).2 := by
    intro f h
    unfold onCandidate
    split
    · exact h _
    · exact Grades.refl s
  have ev : ∀ x why ret, Grades s (evaluate why ret (s.setSel x)) := fun x why ret =>
    ((setSel_steers ..).trans (evaluate_steers ..)).grades
  unfold switchAction
  split
  · exact on _ fun c => ((setSel_steers ..).trans ((dropForcedIf_steers ..).trans ((dropManualIf_steers ..).trans
      (evaluate_steers ..)))).grades
  · refine on _ fun c => ?_
    unfold unlockAction
    split
    · exact ev ..
    · exact Grades.refl s
  · refine on _ fun c => ?_
    unfold forceAction
    split
    · exact Grades.refl s
    · split
      · exact Grades.refl s
      · exact ev ..
  · exact ev ..
  · refine on _ fun c => ?_
    unfold manualAction
    split
    · exact Grades.refl s
    · split
      · exact Grades.refl s
      · split
        · exact Grades.refl s
        · exact ev ..
  · split
    · unfold releaseForcedAction
      split
      · exact Grades.refl s
      · exact ev ..
    · split
      · unfold releaseManualAction
        split
        · exact Grades.refl s
        · exact ev ..
      · exact Grades.refl s
  · refine on _ fun c => ?_
    unfold clearWaitAction
    split
    · exact (setCand_grades ..).trans (evaluate_steers ..).grades
    · exact Grades.refl s
  · exact Grades.refl s

theorem handleSwitch_keeps (l : LinkId) (q : Request) (action operand option : Octet) (s : State) :
    Keeps s (handleSwitch l q action operand option s) :=
  (switchAction_grades l action operand option s).keeps.trans (answer_keeps ..)

theorem handleTrunk_keeps (l : LinkId) (q : Request) (action trunk : Octet) (s : State) :
    Keeps s (handleTrunk l q action trunk s) := by
  unfold handleTrunk
  split
  · exact answer_keeps ..
  · split
    · unfold handleRestart
      split
      · exact (restartTrunk_works ..).keeps.trans (answer_keeps ..)
      · exact answer_keeps ..
    · split
      · unfold handleRecenter
        dsimp only
        split
        · exact (setStore_works ..).keeps.trans (answer_keeps ..)
        · exact answer_keeps ..
        · exact answer_keeps ..
      · exact answer_keeps ..

theorem handleEvents_keeps (l : LinkId) (q : Request) (count : Octet) (s : State) :
    Keeps s (handleEvents l q count s) := by
  unfold handleEvents
  dsimp only
  split
  · exact (setLink_keeps ..).trans ((answer_keeps ..).trans (setLink_keeps ..))
  · exact answer_keeps ..

theorem clearWanders_keeps (l : LinkId) (s : State) : Keeps s (clearWanders l s) := by
  unfold clearWanders; exact ⟨rfl, rfl, rfl⟩
theorem warmBlocks_keeps (s : State) : Keeps s (warmBlocks s) := by
  unfold warmBlocks recomputeQl State.setSynth; exact ⟨rfl, rfl, rfl⟩
theorem clearCounters_keeps (s : State) : Keeps s (clearCounters s) := by
  unfold clearCounters; exact ⟨rfl, rfl, rfl⟩

theorem restartLink_keeps (l : LinkId) (s : State) : Keeps s (restartLink l s) := by
  unfold restartLink
  exact (setCommit_keeps s _).trans ((clearWanders_keeps l _).trans (setLink_keeps l _ _))

theorem warmReset_keeps (l : LinkId) (s : State) : Keeps s (warmReset l s) := by
  have h := (warmBlocks_keeps s).trans ((restartLink_keeps .a _).trans (restartLink_keeps .b _))
  unfold warmReset
  generalize restartLink .b (restartLink .a (warmBlocks s)) = t at h
  exact h.trans ((setCause_keeps t _).trans (raise_reports ..).keeps)

theorem handleResetLink_keeps (l : LinkId) (q : Request) (s : State) : Keeps s (handleResetLink l q s) := by
  unfold handleResetLink
  exact (restartLink_keeps l s).trans (answer_keeps ..)

theorem handleResetPart_keeps (l : LinkId) (q : Request) (s : State) : Keeps s (handleResetPart l q s) := by
  unfold handleResetPart
  exact (warmReset_keeps l s).trans (answer_keeps ..)

theorem handleReset_keeps (l : LinkId) (q : Request) (no : Status → State → State)
    (h : ∀ why s, Keeps s (no why s)) (s : State) : Keeps s (handleReset l q no s) := by
  rw [handleReset.eq_def]
  rcases q.body with _ | ⟨operand, _ | ⟨x, xs⟩⟩
  · exact h ..
  · dsimp only
    by_cases h1 : operand = 1
    · rw [if_pos h1]; exact handleResetLink_keeps ..
    · rw [if_neg h1]
      by_cases h2 : operand = 2
      · rw [if_pos h2]; exact handleResetPart_keeps ..
      · rw [if_neg h2]; exact h ..
  · exact h ..

theorem handleCapture_keeps (l : LinkId) (q : Request) (trunk : Octet) (s : State) :
    Keeps s (handleCapture l q trunk s) := by
  unfold handleCapture
  split
  · exact answer_keeps ..
  · exact await_keeps ..

theorem handleClear_keeps (l : LinkId) (q : Request) (option : Octet) (s : State) :
    Keeps s (handleClear l q option s) := by
  unfold handleClear
  split
  · unfold handleClearCounters
    exact (clearCounters_keeps s).trans ((raise_reports ..).keeps.trans (answer_keeps ..))
  · split
    · unfold handleClearCause
      exact (setCause_keeps s 0).trans (answer_keeps ..)
    · exact answer_keeps ..

theorem handleMask_keeps (l : LinkId) (q : Request) (m : Octet) (s : State) : Keeps s (handleMask l q m s) := by
  unfold handleMask
  split
  · exact answer_keeps ..
  · exact (setLink_keeps ..).trans (answer_keeps ..)

theorem handleDiscard_keeps (l : LinkId) (q : Request) (s : State) : Keeps s (handleDiscard l q s) :=
  (setLink_keeps ..).trans (answer_keeps ..)

theorem handleKind_keeps (l : LinkId) (q : Request) (s : State) : Keeps s (handleKind l q s) := by
  have wrong : Keeps s (wrongLength l q s) := answer_keeps ..
  unfold handleKind
  split
  · unfold handleBare
    split
    · split
      · exact answer_keeps ..
      · exact handleDiscard_keeps ..
    · exact wrong
  split
  · unfold handleReadBody
    split
    · exact handleRead_keeps ..
    · exact wrong
  split
  · unfold handleStageBody
    split
    · exact handleStage_keeps ..
    · exact wrong
  split
  · unfold handleTwo
    split
    · split
      · exact handleCommit_keeps ..
      · exact handleTrunk_keeps ..
    · exact wrong
  split
  · unfold handleSwitchBody
    split
    · exact handleSwitch_keeps ..
    · exact wrong
  split
  · unfold handleOne
    split
    · split
      · exact handleCapture_keeps ..
      split
      · exact handleEvents_keeps ..
      split
      · exact handleClear_keeps ..
      · exact handleMask_keeps ..
    · exact wrong
  split
  · exact handleReset_keeps l q (fun why => answer l q why []) (fun why u => answer_keeps l q why [] u) s
  · exact answer_keeps ..

/-- The taking of a request, in any state of its link (R151). -/
theorem takeRequest_keeps (l : LinkId) (q : Request) (s : State) : Keeps s (takeRequest l q s) := by
  have aside : Keeps s (if q.rightCheck = q.check ∧ q.kind = 12 then handleReset l q (answerAside l q) s
      else answerAside l q .busy s) := by
    split
    · exact handleReset_keeps _ _ _ (fun _ _ => answerAside_keeps ..) _
    · exact answerAside_keeps ..
  unfold takeRequest
  split
  · split
    · exact handleKind_keeps ..
    · exact answer_keeps ..
  · exact aside
  · exact aside

theorem takeOverlong_keeps (l : LinkId) (q : Request) (s : State) : Keeps s (takeOverlong l q s) := by
  unfold takeOverlong
  split
  · exact answer_keeps ..
  · exact answerAside_keeps ..
  · exact answerAside_keeps ..

theorem setReception_keeps (l : LinkId) (os : List Octet) (timer : Option Tick) (s : State) :
    Keeps s (setReception l os timer s) := setLink_keeps ..

theorem requestOctet_keeps (l : LinkId) (o : Octet) (s : State) : Keeps s (requestOctet l o s) := by
  unfold requestOctet
  split
  · split
    · exact setLink_keeps ..
    · exact Keeps.refl s
  · unfold receive
    dsimp only
    split
    · exact (setReception_keeps l [] none s).trans (takeOverlong_keeps ..)
    · split
      · exact (setReception_keeps l [] none s).trans (takeRequest_keeps ..)
      · exact setReception_keeps ..

/-! ### Frames and applies -/

theorem readStore_keeps (t : Trunk) (s : State) : Keeps s (readStore t s) := by
  have h : Keeps s (match s.stores[t].delivers with
      | .fresh r => s.setStore t (s.stores[t].deliverFresh r s.gen.tick)
      | .repeated _ => slip t .repeated 0 s
      | .idle => s) := by
    split
    · exact (setStore_works ..).keeps
    · exact (slip_works ..).keeps
    · exact Keeps.refl s
  exact h.trans ⟨rfl, rfl, rfl⟩

theorem frameUnit_keeps (u : FrameUnit) (s : State) : Keeps s (u.take s) := by
  cases u with
  | length => exact ⟨rfl, rfl, rfl⟩
  | frameQl => exact ⟨rfl, rfl, rfl⟩
  | classes => exact (classEvaluation_grades s).keeps
  | waits => exact (countWaits_grades s).keeps
  | timeout => exact (takeHandedTimeout_grades s).keeps
  | sample => exact (phaseSample_grades s).keeps
  | read t => exact readStore_keeps t s

theorem advanceGenerator_keeps (s : State) : Keeps s (advanceGenerator s) := ⟨rfl, rfl, rfl⟩
theorem fixLanes_keeps (p : Plane) (s : State) : Keeps s (fixLanes p s) := by
  cases p <;> (unfold fixLanes; exact ⟨rfl, rfl, rfl⟩)
theorem decideSquelch_keeps (s : State) : Keeps s (decideSquelch s) := ⟨rfl, rfl, rfl⟩

theorem startFrame_keeps (ord : Nat) (s : State) : Keeps s (startFrame ord s) := by
  have h := foldl_keepsQueue (fun s u => FrameUnit.take u s) (fun s u => frameUnit_keeps u s)
    (unitOrder ord ((advanceGenerator s).gen.frameNumber == 0)) (advanceGenerator s)
  unfold startFrame
  dsimp only
  generalize List.foldl _ _ _ = t at h ⊢
  exact (advanceGenerator_keeps s).trans (h.trans ((fixLanes_keeps .a t).trans ((fixLanes_keeps .b _).trans
    (decideSquelch_keeps _))))

theorem setEpoch_keeps (e : Epoch) (s : State) : Keeps s { s with gen := { s.gen with epoch := e } } := ⟨rfl, rfl, rfl⟩

theorem atEpoch_keeps (e : Epoch) (f : State → State) (h : ∀ s, Keeps s (f s)) (s : State) : Keeps s (atEpoch e f s) :=
  (setEpoch_keeps e s).trans ((h _).trans (setEpoch_keeps s.gen.epoch _))

/-- The window end of a store acts on that store and the queues (R40). -/
theorem endStoreWindow_works (t : Trunk) (e : Epoch) (s : State) : Works s (endStoreWindow t e s) := by
  unfold endStoreWindow
  dsimp only
  split
  · split
    · exact (setStore_works ..).trans (raise_reports ..).works
    · exact setStore_works ..
  · exact setStore_works ..

theorem endSlipWindow_keeps (t : Trunk) (s : State) : Keeps s (endSlipWindow t s) := by
  unfold endSlipWindow
  split
  · exact Keeps.refl s
  · exact atEpoch_keeps _ _ (fun u => (endStoreWindow_works ..).keeps) s

theorem applyUnit_keeps (old : Settings) (u : ApplyUnit) (s : State) : Keeps s (u.take old s) := by
  cases u with
  | trunk t =>
    change Keeps s (applyTrunk old t s)
    unfold applyTrunk
    split
    · exact Keeps.refl s
    · split
      · exact (enableTrunk_works ..).keeps
      · exact (disableTrunk_works ..).keeps
  | candidate c => exact (resetCandidate_grades ..).keeps

theorem applyLanes_keeps (old : Settings) (p : Plane) (s : State) : Keeps s (applyLanes old p s) := by
  unfold applyLanes
  split
  · exact Keeps.refl s
  · exact fixLanes_keeps ..

theorem applySynth_steers (old : Settings) (s : State) : Steers s (applySynth old s) := by
  unfold applySynth
  refine Steers.trans ?_ (recomputeQl_steers _)
  split
  · exact setSynth_steers ..
  · exact Steers.refl s

theorem applySelector_steers (l : LinkId) (s : State) : Steers s (applySelector l s) :=
  (dropForcedIf_steers ..).trans ((dropManualIf_steers ..).trans (evaluate_steers ..))

theorem setCfg_keeps (s : State) (k : Settings) : Keeps s { s with cfg := k } := ⟨rfl, rfl, rfl⟩

theorem applyUnder_keeps (ord : Nat) (old : Settings) (s : State) : Keeps s (applyUnder ord old s) :=
  (setCfg_keeps s _).trans ((foldl_keepsQueue (fun s u => ApplyUnit.take old u s) (fun s u => applyUnit_keeps old u s)
    (inOrder ord applyUnits) _).trans (setCfg_keeps _ s.cfg))

theorem applyBlocks_keeps (ord : Nat) (old : Settings) (started : Bool) (l : LinkId) (s : State) :
    Keeps s (applyBlocks ord old started l s) := by
  unfold applyBlocks
  have h := applyUnder_keeps ord old s
  dsimp only
  split
  · exact h.trans ((applyLanes_keeps ..).trans ((applyLanes_keeps ..).trans ((applySynth_steers ..).keeps.trans
      (applySelector_steers ..).keeps)))
  · exact h.trans ((applySynth_steers ..).keeps.trans (applySelector_steers ..).keeps)

theorem finishCommit_keeps (l : LinkId) (s : State) : Keeps s (finishCommit l s) := by
  have h := (setLink_keeps l { s.link l with staging := [] } s).trans (setCommit_keeps _ none)
  unfold finishCommit
  dsimp only
  split
  · exact h.trans (complete_keeps ..)
  · exact h

theorem installConfig_keeps (l : LinkId) (s : State) : Keeps s (installConfig l s) := by
  have h : Keeps s { s with cfg := mergedConfig s l, generation := s.generation + 1 } := ⟨rfl, rfl, rfl⟩
  exact h.trans (raise_reports ..).keeps

theorem applyCommit_keeps (ord : Nat) (s : State) : Keeps s (applyCommit ord s) := by
  unfold applyCommit
  split
  · exact Keeps.refl s
  · exact (atEpoch_keeps _ _ (fun u => (installConfig_keeps _ u).trans (applyBlocks_keeps ..)) s).trans
      (finishCommit_keeps ..)

end Sys2Proof.Machine
end

