-- ==== Sys2Proof/WellFormed.lean ====
section
/-! DEFINITION. Which commands a sender can make: a request's body has at most 64 octets, and a request of
unknown kind has a kind of 0 or above 12 (00_scope.md, 5.3; R153). -/

namespace Sys2Proof

/-- Whether the request line can deliver the command: 5.3 bounds a request's body to 64 octets, three of which a STAGE
spends on its item, and R153 gives the kinds that no request has. Every other operand is valid by its type. -/
def Instr.wellFormed : Instr → Bool
  | .stage _ _ _ _ _ value _ => decide (value.length ≤ 61)
  | .badKindRequest _ _ kind body _ => (decide (kind = 0) || decide (12#8 < kind)) && decide (body.length ≤ 64)
  | .trunkOctetArrival _ _ | .lossOfSignalExpiry _ | .exchangeFrameStart _ | .captureCompletion _ | .waitEnd _
  | .acquireTimeout | .slipWindowEnd _ | .stationInputEdge _ | .windowEnd _ | .activityTimerExpiry _
  | .commitApply _ | .interOctetTimerExpiry _ | .responseSent _ | .identify _ _ _ | .read _ _ _ _ _ _ _
  | .commit _ _ _ _ | .discard _ _ _ | .lockout _ _ _ _ _ | .unlock _ _ _ _ _ | .force _ _ _ _ _
  | .forceHoldover _ _ _ _ _ | .manual _ _ _ _ _ | .releaseForced _ _ _ _ | .releaseManual _ _ _ _
  | .clearWait _ _ _ _ _ | .restart _ _ _ _ | .recenter _ _ _ _ | .capture _ _ _ _ | .events _ _ _ _
  | .clearCounters _ _ _ | .clearResetCause _ _ _ | .mask _ _ _ _ | .resetLink _ _ _ | .resetPart _ _ _
  | .pinResetAssert | .pinResetRelease | .powerOnResetRelease | .requestLineOctetArrival _ _ => true

end Sys2Proof
end

