-- ==== Sys2Proof/Laws/PerInstr.lean ====
section
/-! SUPPORT. Statements made of every command: the body of a well-formed request has at most 64 octets (5.3). -/

namespace Sys2Proof.Laws.RequestBodiesFit

/-- How many body octets the request of a row has (R155, R111); a row that is no request has none. -/
def bodyLength : Instr → Nat
  | .trunkOctetArrival _ _ | .lossOfSignalExpiry _ | .exchangeFrameStart _ | .captureCompletion _ | .waitEnd _
  | .acquireTimeout | .slipWindowEnd _ | .stationInputEdge _ | .windowEnd _ | .activityTimerExpiry _
  | .commitApply _ | .interOctetTimerExpiry _ | .responseSent _ | .identify _ _ _ | .discard _ _ _
  | .pinResetAssert | .pinResetRelease | .powerOnResetRelease | .requestLineOctetArrival _ _ => 0
  | .capture _ _ _ _ | .events _ _ _ _ | .clearCounters _ _ _ | .clearResetCause _ _ _ | .mask _ _ _ _
  | .resetLink _ _ _ | .resetPart _ _ _ => 1
  | .commit _ _ _ _ | .restart _ _ _ _ | .recenter _ _ _ _ => 2
  | .lockout _ _ _ _ _ | .unlock _ _ _ _ _ | .force _ _ _ _ _ | .forceHoldover _ _ _ _ _ | .manual _ _ _ _ _
  | .releaseForced _ _ _ _ | .releaseManual _ _ _ _ | .clearWait _ _ _ _ _ => 3
  | .read _ _ _ _ _ _ _ => 4
  | .stage _ _ _ _ _ value _ => 3 + value.length
  | .badKindRequest _ _ _ body _ => body.length

def Statement (i : Instr) : Prop := i.wellFormed = true → bodyLength i ≤ 64

theorem trunkOctetArrival (t : Trunk) (o : Octet) : Statement (.trunkOctetArrival t o) :=
  fun _ => Nat.le_of_ble_eq_true rfl
theorem lossOfSignalExpiry (t : Trunk) :
    Statement (.lossOfSignalExpiry t) := fun _ => Nat.le_of_ble_eq_true rfl
theorem exchangeFrameStart (ord : Nat) :
    Statement (.exchangeFrameStart ord) := fun _ => Nat.le_of_ble_eq_true rfl
theorem captureCompletion (l : LinkId) :
    Statement (.captureCompletion l) := fun _ => Nat.le_of_ble_eq_true rfl
theorem waitEnd (c : Cand) : Statement (.waitEnd c) := fun _ => Nat.le_of_ble_eq_true rfl
theorem acquireTimeout : Statement .acquireTimeout := fun _ => Nat.le_of_ble_eq_true rfl
theorem slipWindowEnd (t : Trunk) : Statement (.slipWindowEnd t) := fun _ => Nat.le_of_ble_eq_true rfl
theorem stationInputEdge (i : Station) : Statement (.stationInputEdge i) := fun _ => Nat.le_of_ble_eq_true rfl
theorem windowEnd (c : Cand) : Statement (.windowEnd c) := fun _ => Nat.le_of_ble_eq_true rfl
theorem activityTimerExpiry (c : Cand) :
    Statement (.activityTimerExpiry c) := fun _ => Nat.le_of_ble_eq_true rfl
theorem commitApply (ord : Nat) : Statement (.commitApply ord) := fun _ => Nat.le_of_ble_eq_true rfl
theorem interOctetTimerExpiry (l : LinkId) : Statement (.interOctetTimerExpiry l) :=
  fun _ => Nat.le_of_ble_eq_true rfl
theorem responseSent (l : LinkId) : Statement (.responseSent l) := fun _ => Nat.le_of_ble_eq_true rfl
theorem identify (l : LinkId) (tag : Octet) (check : Word16) : Statement (.identify l tag check) :=
  fun _ => Nat.le_of_ble_eq_true rfl
theorem read (l : LinkId) (tag item index1 index2 selector : Octet) (check : Word16) :
    Statement (.read l tag item index1 index2 selector check) :=
  fun _ => Nat.le_of_ble_eq_true rfl
theorem stage (l : LinkId) (tag item index1 index2 : Octet) (value : List Octet) (check : Word16) :
    Statement (.stage l tag item index1 index2 value check) :=
  fun h => by
  have := of_decide_eq_true h
  simp only [bodyLength]
  omega
theorem commit (l : LinkId) (tag : Octet) (expected check : Word16) :
    Statement (.commit l tag expected check) :=
  fun _ => Nat.le_of_ble_eq_true rfl
theorem discard (l : LinkId) (tag : Octet) (check : Word16) : Statement (.discard l tag check) :=
  fun _ => Nat.le_of_ble_eq_true rfl
theorem lockout (l : LinkId) (tag operand option : Octet) (check : Word16) :
    Statement (.lockout l tag operand option check) :=
  fun _ => Nat.le_of_ble_eq_true rfl
theorem unlock (l : LinkId) (tag operand option : Octet) (check : Word16) :
    Statement (.unlock l tag operand option check) :=
  fun _ => Nat.le_of_ble_eq_true rfl
theorem force (l : LinkId) (tag operand option : Octet) (check : Word16) :
    Statement (.force l tag operand option check) :=
  fun _ => Nat.le_of_ble_eq_true rfl
theorem forceHoldover (l : LinkId) (tag operand option : Octet) (check : Word16) :
    Statement (.forceHoldover l tag operand option check) :=
  fun _ => Nat.le_of_ble_eq_true rfl
theorem manual (l : LinkId) (tag operand option : Octet) (check : Word16) :
    Statement (.manual l tag operand option check) :=
  fun _ => Nat.le_of_ble_eq_true rfl
theorem releaseForced (l : LinkId) (tag option : Octet) (check : Word16) :
    Statement (.releaseForced l tag option check) :=
  fun _ => Nat.le_of_ble_eq_true rfl
theorem releaseManual (l : LinkId) (tag option : Octet) (check : Word16) :
    Statement (.releaseManual l tag option check) :=
  fun _ => Nat.le_of_ble_eq_true rfl
theorem clearWait (l : LinkId) (tag operand option : Octet) (check : Word16) :
    Statement (.clearWait l tag operand option check) :=
  fun _ => Nat.le_of_ble_eq_true rfl
theorem restart (l : LinkId) (tag trunk : Octet) (check : Word16) : Statement (.restart l tag trunk check) :=
  fun _ => Nat.le_of_ble_eq_true rfl
theorem recenter (l : LinkId) (tag trunk : Octet) (check : Word16) :
    Statement (.recenter l tag trunk check) :=
  fun _ => Nat.le_of_ble_eq_true rfl
theorem capture (l : LinkId) (tag trunk : Octet) (check : Word16) : Statement (.capture l tag trunk check) :=
  fun _ => Nat.le_of_ble_eq_true rfl
theorem events (l : LinkId) (tag count : Octet) (check : Word16) : Statement (.events l tag count check) :=
  fun _ => Nat.le_of_ble_eq_true rfl
theorem clearCounters (l : LinkId) (tag : Octet) (check : Word16) : Statement (.clearCounters l tag check) :=
  fun _ => Nat.le_of_ble_eq_true rfl
theorem clearResetCause (l : LinkId) (tag : Octet) (check : Word16) :
    Statement (.clearResetCause l tag check) :=
  fun _ => Nat.le_of_ble_eq_true rfl
theorem mask (l : LinkId) (tag newMask : Octet) (check : Word16) : Statement (.mask l tag newMask check) :=
  fun _ => Nat.le_of_ble_eq_true rfl
theorem resetLink (l : LinkId) (tag : Octet) (check : Word16) : Statement (.resetLink l tag check) :=
  fun _ => Nat.le_of_ble_eq_true rfl
theorem resetPart (l : LinkId) (tag : Octet) (check : Word16) : Statement (.resetPart l tag check) :=
  fun _ => Nat.le_of_ble_eq_true rfl
theorem pinResetAssert : Statement .pinResetAssert := fun _ => Nat.le_of_ble_eq_true rfl
theorem pinResetRelease : Statement .pinResetRelease := fun _ => Nat.le_of_ble_eq_true rfl
theorem powerOnResetRelease : Statement .powerOnResetRelease := fun _ => Nat.le_of_ble_eq_true rfl
theorem requestLineOctetArrival (l : LinkId) (o : Octet) : Statement (.requestLineOctetArrival l o) :=
  fun _ => Nat.le_of_ble_eq_true rfl
theorem badKindRequest (l : LinkId) (tag kind : Octet) (body : List Octet) (check : Word16) :
    Statement (.badKindRequest l tag kind body check) :=
  fun h => by
  simp only [Instr.wellFormed, Bool.and_eq_true, decide_eq_true_eq] at h
  exact h.2

end Sys2Proof.Laws.RequestBodiesFit
end

