-- ==== Sys2Proof/Tests/Slice0.lean ====
section
/-! SUPPORT. The model's own tests: ill-formed commands, states that meet the hypotheses of the obligations, and single steps
with the values the spec gives. -/

namespace Sys2Proof.Tests

open Sys2Proof.Machine

set_option maxRecDepth 20000

/-! ### Ill-formed commands (WellFormed.lean) -/

theorem test_illFormed_stageValueOf62 :
    (Instr.stage .a 1 1 0 0 (List.replicate 62 0) 0).wellFormed = false
      ∧ (Instr.stage .a 1 1 0 0 (List.replicate 61 0) 0).wellFormed = true := by decide

theorem test_illFormed_badKindIsAKnownKind :
    (Instr.badKindRequest .a 1 1 [] 0).wellFormed = false ∧ (Instr.badKindRequest .b 1 12 [] 0).wellFormed = false
      ∧ (Instr.badKindRequest .a 1 0 [] 0).wellFormed = true ∧ (Instr.badKindRequest .b 1 13 [] 0).wellFormed = true := by
  decide

theorem test_illFormed_badKindBodyOf65 :
    (Instr.badKindRequest .a 1 13 (List.replicate 65 0) 0).wellFormed = false
      ∧ (Instr.badKindRequest .a 1 13 (List.replicate 64 0) 0).wellFormed = true := by decide

/-! ### Small states -/

/-- The state a command leaves, and the state before where it leaves none. -/
def after (i : Instr) (s : State) : State :=
  match exec i s with
  | .next t => t
  | .fault _ | .refused _ => s

def tick (n : Nat) (s : State) : State := s.setGen { s.gen with tick := BitVec.ofNat 32 n }
def frame (n : Fin 16) (s : State) : State := s.setGen { s.gen with frameNumber := n }
def epoch (n : Nat) (s : State) : State := s.setGen { s.gen with epoch := BitVec.ofNat 32 n }
def framer (f : Framer → Framer) (s : State) : State := s.setFramer 5 (f s.framers[5])
def store (f : Store → Store) (s : State) : State := s.setStore 5 (f s.stores[5])
def cand (f : Runtime → Runtime) (s : State) : State := s.setCand 0 (f s.cands[0])
def sel (f : Selector → Selector) (s : State) : State := s.setSel (f s.sel)
def synth (f : Synth → Synth) (s : State) : State := s.setSynth (f s.synth)
def onA (f : Link → Link) (s : State) : State := s.setLink .a (f s.linkA)
def onB (f : Link → Link) (s : State) : State := s.setLink .b (f s.linkB)
def config (f : Settings → Settings) (s : State) : State := { s with cfg := f s.cfg }

/-- Trunk 5 enabled. -/
def trunkOn (s : State) : State :=
  config (fun k => { k with trunks := k.trunks.set 5 { enabled := true, threshold := 4 } }) s

/-- Candidate 1 enabled on a source. -/
def candOn (src : Source) (s : State) : State :=
  config (fun k => { k with cands := k.cands.set 0 { enabled := true, source := src, priority := 1, assumedQl := 2 } }) s

/-- No event in the queues. -/
def quiet (s : State) : State := onB (fun k => { k with queue := [] }) (onA (fun k => { k with queue := [] }) s)

/-- The kinds and details of the events in a queue. -/
def heard (k : Link) : List (EventKind × Nat) := k.queue.map fun e => (e.kind, e.detail.toNat)

/-- Framer 5 ALIGNED, at the frame the flywheel expects, with octets of it in store 5. -/
def aligned (a : Machine.Alignment) (os : List Octet) (s : State) : State :=
  store (fun x => { x with state := .priming, inProgress := os })
    (framer (fun f => { f with state := .aligned a, losFrom := some s.gen.tick }) (trunkOn s))

/-- A frame record with one octet repeated as its traffic. -/
def record (o : Octet) (stamp : Tick) : FrameRecord :=
  { traffic := Vector.replicate 32 o, ql := 3, rdi := false, number := 6, errored := false, stamp := stamp }

/-- Candidate 1 VALID at class 2 on a source. -/
def validCand (src : Source) (s : State) : State :=
  cand (fun r => { r with state := .valid, cls := 2, hasQualified := true, latest := some 100
                          windowStart := some 100, activityFrom := some s.gen.tick }) (candOn src s)

/-- Candidate 1 selected. -/
def selected (s : State) : State := sel (fun x => { x with selection := some 0 }) s

/-- The part takes a command at once, as a computation. -/
def takesNow (s : State) : Bool :=
  !s.pinHeld && (List.finRange 8).all (fun c => !windowEndDue s c) && (handedCapture s.linkA).isNone
    && (handedCapture s.linkB).isNone

theorem takes_of_takesNow {s : State} (h : takesNow s = true) : Takes s := by
  simp only [takesNow, Bool.and_eq_true, Bool.not_eq_true', List.all_eq_true, List.mem_finRange, true_imp_iff,
    Option.isNone_iff_eq_none] at h
  obtain ⟨⟨⟨h1, h2⟩, h3⟩, h4⟩ := h
  refine ⟨h1, fun c => h2 c, fun l => ?_⟩
  cases l
  · exact h3
  · exact h4

theorem ready_of_takesNow {s : State} {l : LinkId} (h : takesNow s = true) (k : (s.link l).state = .ready) : Ready s l :=
  ⟨takes_of_takesNow h, k⟩

/-! ### States that meet the hypotheses of the obligations -/

theorem test_witness_idle :
    (Running State.reset ∧ State.reset.pending = [] ∧ dueCommands State.reset = [])
      ∧ (let s := tick 3072 State.reset
         Running s ∧ s.pending = [] ∧ dueCommands s ≠ []) := by
  exact ⟨⟨rfl, rfl, by decide⟩, rfl, rfl, by decide⟩

/-- A multiframe start is at hand when it is due, and when the generator has just taken it; a frame start alone is neither. -/
theorem test_witness_dueSteps :
    (let s := tick 3072 (frame 15 State.reset)
     Claim.Due s ∧ s.multiframeAt = some 1)
      ∧ (¬ Claim.Due State.reset ∧ State.reset.multiframeAt = some 0)
      ∧ (tick 3072 State.reset).multiframeAt = none ∧ (tick 1 State.reset).multiframeAt = none := by decide

theorem test_witness_leftoverWork :
    Running State.reset ∧ runsOn (.identify .a 1 0) = true ∧ runsOn (.windowEnd 0) = false := by
  exact ⟨rfl, rfl, rfl⟩

theorem test_witness_held :
    (after .pinResetAssert State.reset).pinHeld = true ∧ isRelease (.identify .a 1 0) = false
      ∧ (after .pinResetAssert State.reset).pending = [] := by decide

theorem test_witness_firstOctet :
    Takes (framer (fun f => { f with state := .noSignal }) State.reset)
      ∧ ((framer (fun f => { f with state := .noSignal }) State.reset).framers[5]).state = .noSignal :=
  ⟨takes_of_takesNow (by decide), by decide⟩

/-- The octets retained for a candidate position of frame 3 with right checks, up to position p + 72. -/
def kept72 : List Octet :=
  0xA3 :: List.replicate 34 0 ++ [0xB4, 0xA4] ++ List.replicate 34 0 ++ [0xB4]

/-- Framer 5 in CONFIRM on frame 3. -/
def confirming (os : List Octet) : State := framer (fun f => { f with state := .confirm 3 os }) (trunkOn State.reset)

/-- Framer 5 in HUNT. -/
def hunting (w : Bool) : State := framer (fun f => { f with state := .hunt w }) (trunkOn State.reset)

theorem test_witness_offHuntConfirm :
    (Takes State.reset ∧ (State.reset.framers[5]).state = .off)
      ∧ (∀ w : Bool, Takes (hunting w) ∧ ((hunting w).framers[5]).state = .hunt w)
      ∧ (0xAF#8).toNat / 16 = 10 ∧ (0x9F#8).toNat / 16 ≠ 10
      ∧ (Takes (confirming (kept72.take 71)) ∧ ((confirming (kept72.take 71)).framers[5]).state = .confirm 3 (kept72.take 71)
          ∧ checksHold 3 (kept72.take 71 ++ [0xB4]) = true ∧ (kept72.take 71 ++ [(0xB4 : Octet)]).length = 72)
      ∧ checksHold 3 (kept72.take 71 ++ [0xB5]) = false ∧ checksHold 3 (kept72.take 35 ++ [0x00]) = false := by
  refine ⟨⟨takes_of_takesNow (by decide), by decide⟩, fun w => ?_, by decide, by decide,
    ⟨takes_of_takesNow (by decide), by decide, by decide, by decide⟩, by decide, by decide⟩
  cases w
  · exact ⟨takes_of_takesNow (by decide), by decide⟩
  · exact ⟨takes_of_takesNow (by decide), by decide⟩

theorem test_witness_rescan :
    (let os : List Octet := [0xB4, 0x00, 0xB4, 0xA3]
     os[2]? = some 0xB4 ∧ os[3]? = some 0xA3 ∧ (0xA3#8).toNat / 16 = 10 ∧ checksHold 3 (os.drop 3) = true
      ∧ rescan os = .confirm 3 [0xA3])
      ∧ rescan [0x00, 0xB4] = .hunt true ∧ rescan [0xB4, 0x9F] = .hunt false := by decide

theorem test_witness_entryToAligned :
    Takes (confirming kept72) ∧ ((confirming kept72).framers[5]).state = .confirm 3 kept72 ∧ kept72.length = 72
      ∧ checksHold 3 (kept72 ++ [0xA5]) = true :=
  ⟨takes_of_takesNow (by decide), by decide, by decide, by decide⟩

theorem test_witness_alignedFrame :
    ∀ os ∈ [[], [0xB4#8], [0xB4, 0xA6], List.replicate 34 0],
      let s := aligned ⟨6, false, 0⟩ os State.reset
      Takes s ∧ (s.framers[5]).state = .aligned ⟨6, false, 0⟩ ∧ (s.stores[5]).inProgress = os := by
  intro os h
  simp only [List.mem_cons, List.not_mem_nil, or_false] at h
  rcases h with rfl | rfl | rfl | rfl
  · exact ⟨takes_of_takesNow (by decide), by decide, by decide⟩
  · exact ⟨takes_of_takesNow (by decide), by decide, by decide⟩
  · exact ⟨takes_of_takesNow (by decide), by decide, by decide⟩
  · exact ⟨takes_of_takesNow (by decide), by decide, by decide⟩

/-- Trunk 5 ALIGNED with one octet of its frame missing. -/
def nearlyDone (errored : Bool) (run : Nat) : State :=
  aligned ⟨6, errored, run⟩ (0xB4 :: 0xA6 :: 0x38 :: 0x01 :: List.replicate 31 7) State.reset

/-- A frame that keeps alignment: one errored, whose RDI stands, and one not, whose RDI moves after two errored ones. -/
theorem test_witness_frameCompletion :
    (Takes (nearlyDone true 1) ∧ ((nearlyDone true 1).framers[5]).state = .aligned ⟨6, true, 1⟩
        ∧ ((nearlyDone true 1).stores[5]).inProgress.length = 35 ∧ ¬ (true = true ∧ 2 ≤ 1))
      ∧ (Takes (nearlyDone false 2) ∧ ((nearlyDone false 2).framers[5]).state = .aligned ⟨6, false, 2⟩
        ∧ ((nearlyDone false 2).framers[5]).rdi = false ∧ (((nearlyDone false 2).stores[5]).inProgress.getD 2 0).getLsbD 3 = true) :=
  ⟨⟨takes_of_takesNow (by decide), by decide, by decide, by decide⟩, takes_of_takesNow (by decide), by decide,
    by decide, by decide⟩

/-- The third errored frame, without and with RDI set. -/
theorem test_witness_lossOfAlignment :
    (Takes (nearlyDone true 2) ∧ ((nearlyDone true 2).framers[5]).state = .aligned ⟨6, true, 2⟩
        ∧ ((nearlyDone true 2).stores[5]).inProgress.length = 35 ∧ ((nearlyDone true 2).framers[5]).rdi = false)
      ∧ (let s := framer (fun f => { f with rdi := true }) (nearlyDone true 2)
         Takes s ∧ (s.framers[5]).state = .aligned ⟨6, true, 2⟩ ∧ (s.framers[5]).rdi = true) :=
  ⟨⟨takes_of_takesNow (by decide), by decide, by decide, by decide⟩, takes_of_takesNow (by decide), by decide, by decide⟩

theorem test_witness_sourceIdentifier :
    (2 : Fin 16) ≠ 0 ∧ (2 : Fin 16) ≠ 1 ∧ Framer.reset.keptHigh = none
      ∧ (let f := { Framer.reset with keptHigh := some 0x12, prevId := some 0x1234, sourceId := some 0x1234 }
         f.keptHigh = some 0x12 ∧ f.sourceId = some 0x1234 ∧ (0x12#8 ++ 0x34#8 : Word16) = 0x1234)
      ∧ (Framer.reset.sourceId = none ∧ Framer.reset.prevId ≠ some 0x1234) := by decide

/-- Framer 5 in a state, its loss-of-signal timer run for some ticks. -/
def silent (st : FramerState) (n : Nat) : State :=
  tick n (framer (fun f => { f with state := st, losFrom := some 0 }) (trunkOn State.reset))

theorem test_witness_lossOfSignal :
    (Takes (silent .noSignal 6143) ∧ ((silent .noSignal 6143).gen.tick - 0).toNat < 6144)
      ∧ ∀ st ∈ [FramerState.noSignal, .hunt false, .confirm 3 [0xA3], .aligned ⟨6, false, 0⟩],
          Takes (silent st 6144) ∧ ((silent st 6144).framers[5]).state = st
            ∧ ((silent st 6144).framers[5]).losFrom = some 0 ∧ 6144 ≤ ((silent st 6144).gen.tick - 0).toNat := by
  refine ⟨⟨takes_of_takesNow (by decide), by decide⟩, fun st h => ?_⟩
  simp only [List.mem_cons, List.not_mem_nil, or_false] at h
  rcases h with rfl | rfl | rfl | rfl
  · exact ⟨takes_of_takesNow (by decide), by decide, by decide, by decide⟩
  · exact ⟨takes_of_takesNow (by decide), by decide, by decide, by decide⟩
  · exact ⟨takes_of_takesNow (by decide), by decide, by decide, by decide⟩
  · exact ⟨takes_of_takesNow (by decide), by decide, by decide, by decide⟩

theorem test_witness_restart :
    (Ready State.reset .a ∧ 48 ≤ (48#8).toNat ∧ (47#8).toNat = (47 : Trunk).val
        ∧ (State.reset.cfg.trunks[47]).enabled = false)
      ∧ ∀ st ∈ [FramerState.noSignal, .hunt true, .confirm 3 [0xA3], .aligned ⟨6, false, 0⟩],
          Ready (silent st 1) .b ∧ ((silent st 1).cfg.trunks[5]).enabled = true ∧ ((silent st 1).framers[5]).state = st := by
  refine ⟨⟨ready_of_takesNow (by decide) rfl, by decide, by decide, by decide⟩, fun st h => ?_⟩
  simp only [List.mem_cons, List.not_mem_nil, or_false] at h
  rcases h with rfl | rfl | rfl | rfl
  · exact ⟨ready_of_takesNow (by decide) rfl, by decide, by decide⟩
  · exact ⟨ready_of_takesNow (by decide) rfl, by decide, by decide⟩
  · exact ⟨ready_of_takesNow (by decide) rfl, by decide, by decide⟩
  · exact ⟨ready_of_takesNow (by decide) rfl, by decide, by decide⟩

theorem test_witness_alignmentLossToldToMonitors :
    let s := selected (validCand (.trunk 5) State.reset)
    (s.cfg.cands[0]).source = .trunk 5 ∧ (s.cands[0]).state.isActive = true ∧ s.sel.selection = some 0
      ∧ (validCand (.trunk 5) State.reset).sel.selection = none
      ∧ ¬ Claim.GradingToCome s 0 ∧ Claim.GradingToCome (tick 3072 (frame 15 s)) 0 := by decide

/-- Store 5 in a state with some frames held and one delivered. -/
def holding (st : StoreState) (n : Nat) (s : State) : State :=
  store (fun x => { x with state := st, queue := List.replicate n (record 7 500), last := some (record 6 100) })
    (framer (fun f => { f with state := .aligned ⟨6, false, 0⟩ }) (trunkOn s))

theorem test_witness_arrivalAtAStore :
    ((holding .priming 4 State.reset).stores[5]).state = .priming
      ∧ ((holding .priming 4 State.reset).stores[5]).queue.length = 4
      ∧ ((holding .run 3 State.reset).stores[5]).state = .run
      ∧ ((holding .run 3 State.reset).stores[5]).queue.length < 4
      ∧ ((holding .run 4 State.reset).stores[5]).queue.length = 4 := by decide

/-- The instant of the first exchange frame start after reset. -/
def atStart (s : State) : State := tick 3072 s

theorem test_witness_readAtAFrameStart :
    (Takes (atStart (holding .run 1 State.reset))
        ∧ (atStart (holding .run 1 State.reset)).gen.tick
          = (atStart (holding .run 1 State.reset)).gen.frameStart
            + BitVec.ofNat 32 (atStart (holding .run 1 State.reset)).gen.frameLength
        ∧ ((atStart (holding .run 1 State.reset)).stores[5]).state = .run
        ∧ ((atStart (holding .run 1 State.reset)).stores[5]).queue = [record 7 500])
      ∧ (let s := atStart (after (.capture .a 1 5 (checkFor 8 1 [5])) (holding .run 0 State.reset))
         Takes s ∧ (s.link .a).outstanding = some { kind := 8, tag := 1, work := .capture 5 none }) :=
  ⟨⟨takes_of_takesNow (by decide), by decide, by decide, by decide⟩, takes_of_takesNow (by decide), by decide⟩

theorem test_witness_recenterAndClear :
    (Ready (holding .run 2 State.reset) .a ∧ ((holding .run 2 State.reset).stores[5]).state = .run
        ∧ (5#8).toNat = (5 : Trunk).val)
      ∧ (State.reset.stores[47]).state ≠ .run ∧ (47#8).toNat = (47 : Trunk).val ∧ 48 ≤ (48#8).toNat :=
  ⟨⟨ready_of_takesNow (by decide) rfl, by decide, by decide⟩, by decide, by decide, by decide⟩

/-- Link A awaiting a capture of trunk 5 that a read has handed over. -/
def handedOver : State :=
  onA (fun k => { k with state := .waiting
                         outstanding := some { kind := 8, tag := 1
                                               work := .capture 5 (some ⟨.fresh (record 7 500), some 2572⟩) } })
    State.reset

theorem test_witness_capture :
    (Ready State.reset .a ∧ 48 ≤ (48#8).toNat ∧ (47#8).toNat = (47 : Trunk).val)
      ∧ Running handedOver
      ∧ (handedOver.link .a).outstanding
          = some { kind := 8, tag := 1, work := .capture 5 (some ⟨.fresh (record 7 500), some 2572⟩) }
      ∧ handedCapture (handedOver.link .b) = none :=
  ⟨⟨ready_of_takesNow (by decide) rfl, by decide, by decide⟩, rfl, by decide, by decide⟩

/-- The multiframe start that begins epoch 4096, due and not taken. -/
def windowBoundary : State := tick 3072 (frame 15 (epoch 4095 (holding .run 0 State.reset)))

theorem test_witness_slipWindow :
    (Takes State.reset ∧ slipWindowDue State.reset 5 = none)
      ∧ (Takes windowBoundary ∧ slipWindowDue windowBoundary 5 = some 4096
        ∧ (windowBoundary.cfg.trunks[5]).enabled = true ∧ (windowBoundary.cfg.trunks[6]).enabled = false)
      ∧ (let s := store (fun x => { x with slipExcess := true, windowCount := 3 }) windowBoundary
         Takes s ∧ slipWindowDue s 5 = some 4096 ∧ (s.stores[5]).windowCount < (s.cfg.trunks[5]).threshold) :=
  ⟨⟨takes_of_takesNow (by decide), by decide⟩,
    ⟨takes_of_takesNow (by decide), by decide, by decide, by decide⟩, takes_of_takesNow (by decide), by decide, by decide⟩

theorem test_witness_frameStart :
    (Takes (tick 3071 State.reset) ∧ ¬ Claim.Due (tick 3071 State.reset))
      ∧ (Takes (atStart State.reset) ∧ Claim.Due (atStart State.reset) ∧ (atStart State.reset).gen.frameNumber ≠ 15)
      ∧ (Takes windowBoundary ∧ Claim.Due windowBoundary ∧ windowBoundary.gen.frameNumber = 15)
      ∧ InRange 10000 ∧ InRange (-10000) ∧ Running State.reset :=
  ⟨⟨takes_of_takesNow (by decide), by decide⟩, ⟨takes_of_takesNow (by decide), by decide, by decide⟩,
    ⟨takes_of_takesNow (by decide), by decide, by decide⟩, ⟨by decide, by decide⟩, ⟨by decide, by decide⟩, rfl⟩

/-- The orders of a frame start with the length before the sample, and those of an apply: the lists as they stand are two. -/
theorem test_witness_orders :
    (frameUnits true).Perm (frameUnits true) ∧ (frameUnits true).idxOf .length < (frameUnits true).idxOf .sample
      ∧ applyUnits.Perm applyUnits := by
  exact ⟨.refl _, by decide, .refl _⟩

theorem test_witness_highways :
    (287 < 288 ∧ (47 : Lane).val = 8 * (5 : Fin 6).val + 287 % 8) ∧ bitPeriod 3069 = 2302 ∧ bitPeriod 3070 = 2303
      ∧ bitPeriod 3072 = 2303 ∧ bitPeriod 0 = 0 ∧ bitPeriod 2 = 2 ∧ bitPeriod 3 = 2 ∧ bitPeriod 4 = 3 := by decide

theorem test_witness_markers :
    ((candOn (.station .s1) State.reset).cfg.cands[0]).enabled = true
      ∧ ((candOn (.station .s1) State.reset).cfg.cands[0]).source = .station .s1
      ∧ (State.reset.cands[0]).state ≠ .inactive
      ∧ ((cand (fun r => { r with state := .inactive }) State.reset).cands[0]).state = .inactive := by decide

theorem test_witness_stationEdge :
    Takes State.reset ∧ (State.reset.station .s1).high = false ∧ (State.reset.station .s1).wasHigh = false
      ∧ ((after (.stationInputEdge .s1) State.reset).station .s1).high = true :=
  ⟨takes_of_takesNow (by decide), by decide, by decide, by decide⟩

/-- Candidate 1 with a window of some intervals, the last marker at its nominal place. -/
def window (n : Nat) : State :=
  cand (fun r => { r with state := .measuring, intervals := n, windowStart := some 100, latest := some 1572964 })
    (candOn (.station .s1) State.reset)

theorem test_witness_windowEnd :
    (Running (window 511) ∧ ((window 511).cands[0]).intervals < 512 ∧ ((window 511).cands[0]).state.isActive = true)
      ∧ (Running (window 512) ∧ 512 ≤ ((window 512).cands[0]).intervals
          ∧ ((window 512).cands[0]).windowStart = some 100 ∧ ((window 512).cands[0]).latest = some 1572964)
      ∧ (State.reset.cands[0]).state.isActive = false :=
  ⟨⟨rfl, by decide, by decide⟩, ⟨rfl, by decide, by decide, by decide⟩, by decide⟩

theorem test_witness_activity :
    let s := validCand (.station .s1) State.reset
    (Takes (tick 9215 s) ∧ ((tick 9215 s).gen.tick - 0).toNat < 9216)
      ∧ (Takes (tick 9216 s) ∧ ((tick 9216 s).cands[0]).state.isActive = true
          ∧ ((tick 9216 s).cands[0]).activityFrom = some 0 ∧ 9216 ≤ ((tick 9216 s).gen.tick - 0).toNat)
      ∧ (State.reset.cands[0]).state.isActive = false :=
  ⟨⟨takes_of_takesNow (by decide), by decide⟩, ⟨takes_of_takesNow (by decide), by decide, by decide, by decide⟩,
    by decide⟩

/-- Candidate 1 VALID on trunk 5, which carries a source identifier in the loop guard. -/
def looped : State :=
  config (fun k => { k with loopGuard := k.loopGuard.set 3 (some 0x1234) })
    (framer (fun f => { f with sourceId := some 0x1234 }) (validCand (.trunk 5) State.reset))

theorem test_witness_grading :
    (State.reset.cfg.cands[0]).enabled = false
      ∧ ((candOn (.trunk 5) State.reset).cfg.cands[0]).enabled = true
      ∧ ((candOn (.trunk 5) State.reset).cands[0]).state ≠ .valid
      ∧ (looped.cfg.cands[0]).enabled = true ∧ (looped.cands[0]).state = .valid
      ∧ (looped.cfg.cands[0]).source = .trunk 5 ∧ (looped.framers[5]).sourceId = some 0x1234
      ∧ looped.cfg.loopGuard[3] = some 0x1234
      ∧ ((validCand (.trunk 5) State.reset).framers[5]).sourceId = none
      ∧ (looped.cands[0]).cls = 2 ∧ (State.reset.cands[0]).cls ≠ 2 := by decide

theorem test_witness_rules :
    ((candOn (.trunk 5) State.reset).cfg.cands[0]).source = .trunk 5
      ∧ ((candOn (.station .s1) State.reset).cfg.cands[0]).source = .station .s1
      ∧ fieldValue State.reset 0 .freqDev = none ∧ fieldValue State.reset 0 .index = some (1#16).toNat
      ∧ ∀ op : RuleOp, ({ Rule.reset with op := op } : Rule).op = op := by
  exact ⟨by decide, by decide, by decide, by decide, fun _ => rfl⟩

/-- Rule 1 maps the index of a candidate, and is alone in its chain. -/
def mapped : State :=
  config (fun k => { k with rules := k.rules.set 0 { Rule.reset with enabled := true, field := .index, value := 1
                                                                     action := .map } }) State.reset

theorem test_witness_chains :
    (∃ after, chains mapped.cfg.rules.toList
        = [] ++ ({ Rule.reset with enabled := true, field := .index, value := 1, action := .map } :: []) :: after)
      ∧ (mapped.cfg.rules[0]).isMatch mapped 0 = true ∧ fieldValue mapped 0 .index = some (1#16).toNat
      ∧ (State.reset.cfg.rules.toList).getLast? = some Rule.reset
      ∧ ∀ x ∈ chains State.reset.cfg.rules.toList, ∀ r ∈ x, r.enabled = false := by
  exact ⟨⟨(chains mapped.cfg.rules.toList).tail, by decide⟩, by decide, by decide, by decide, by decide⟩

theorem test_witness_waits :
    let s := tick 3072 (frame 15 (cand (fun r => { r with wait := some (.definite 1 0) }) State.reset))
    (Takes s ∧ s.multiframeAt = some 1 ∧ (s.cands[0]).wait = some (.definite 1 0))
      ∧ Takes State.reset ∧ waitEndDue State.reset 0 = false :=
  ⟨⟨takes_of_takesNow (by decide), by decide, by decide⟩, takes_of_takesNow (by decide), by decide⟩

theorem test_witness_automaticChoice :
    let s := selected (validCand (.trunk 5) State.reset)
    s.cfg.selector.revertive = false
      ∧ (config (fun k => { k with selector := { k.selector with revertive := true } }) s).cfg.selector.revertive = true
      ∧ s.sel.selection = some 0 ∧ (s.cfg.cands[0]).enabled = true ∧ (s.cands[0]).cls ≠ 0 ∧ s.sel.lockout[0] = false
      ∧ (s.cands[0]).wait = none ∧ State.reset.sel.selection = none := by decide

/-- A FORCED request for a target. -/
def forced (x : Option Cand) (s : State) : State :=
  sel (fun y => { y with forced := some { target := x, link := .a, epoch := 0, ret := some 0 } }) s

/-- A MANUAL request for candidate 1. -/
def manualFor (s : State) : State :=
  sel (fun y => { y with manual := some { target := 0, link := .a, epoch := 0, ret := none } }) s

theorem test_witness_evaluation :
    let s := validCand (.trunk 5) State.reset
    (∃ m, (manualFor State.reset).sel.manual = some m ∧ eligible (manualFor State.reset) m.target = false)
      ∧ (forced (some 0) s).sel.forced = some { target := some 0, link := .a, epoch := 0, ret := some 0 }
      ∧ (forced none s).sel.forced = some { target := none, link := .a, epoch := 0, ret := some 0 }
      ∧ ((manualFor s).sel.forced = none ∧ eligible (manualFor s) 0 = true)
      ∧ (s.sel.forced = none ∧ s.sel.manual = none ∧ eligible s 0 = true ∧ eligible s 7 = false)
      ∧ (selected s).sel.selection = some 0 ∧ s.sel.selection = none
      ∧ ((forced none (selected s)).sel.selection = some 0 ∧ (forced none (selected s)).sel.forced ≠ none
        ∧ (forced none (selected s)).sel.manual = none ∧ chooseSelection none (forced none (selected s)) = none) :=
  ⟨⟨_, rfl, by decide⟩, by decide, by decide, by decide, by decide, by decide, by decide, by decide⟩

/-- Candidate 1 being acquired. -/
def acquiring (f : Synth → Synth) : State :=
  synth (fun y => f { y with state := .acquire }) (selected (validCand (.station .s1) State.reset))

theorem test_witness_acquireTimeout :
    (Takes State.reset ∧ State.reset.sel.timeouts = [] ∧ State.reset.synth.state ≠ .acquire)
      ∧ (let s := sel (fun x => { x with timeouts := [0] }) (acquiring fun y => { y with acquireTimer := 1023 })
         Takes s ∧ s.sel.timeouts = [0] ∧ ¬ 1024 ≤ s.synth.acquireTimer)
      ∧ (let s := acquiring fun y => { y with acquireTimer := 1024 }
         Takes s ∧ s.synth.state = .acquire ∧ 1024 ≤ s.synth.acquireTimer ∧ s.sel.selection = some 0
          ∧ s.sel.timeouts = []) :=
  ⟨⟨takes_of_takesNow (by decide), by decide, by decide⟩, ⟨takes_of_takesNow (by decide), by decide, by decide⟩,
    takes_of_takesNow (by decide), by decide, by decide, by decide, by decide⟩

/-- The operands that name no candidate and the first and last that do. -/
theorem test_witness_switchOperands :
    Ready State.reset .a ∧ ((0#8).toNat = 0 ∧ 8 < (9#8).toNat) ∧ (1#8).toNat = (0 : Cand).val + 1
      ∧ (8#8).toNat = (7 : Cand).val + 1 ∧ State.reset.sel.lockout[7] = false
      ∧ (after (.lockout .a 1 8 0 (checkFor 6 1 [1, 8, 0])) State.reset).sel.lockout[7] = true :=
  ⟨ready_of_takesNow (by decide) rfl, by decide, by decide, by decide, by decide, by decide⟩

theorem test_witness_switchLocked :
    let s := sel (fun x => { x with lockout := x.lockout.set 0 true }) State.reset
    Ready s .b ∧ s.sel.lockout[0] = true := ⟨ready_of_takesNow (by decide) rfl, by decide⟩

theorem test_witness_releases :
    (Ready State.reset .a ∧ State.reset.sel.forced = none ∧ State.reset.sel.manual = none)
      ∧ (Ready (forced (some 0) State.reset) .a
          ∧ (forced (some 0) State.reset).sel.forced = some { target := some 0, link := .a, epoch := 0, ret := some 0 })
      ∧ Ready (manualFor State.reset) .b ∧ (manualFor State.reset).sel.manual.isSome = true :=
  ⟨⟨ready_of_takesNow (by decide) rfl, by decide, by decide⟩, ⟨ready_of_takesNow (by decide) rfl, by decide⟩,
    ready_of_takesNow (by decide) rfl, by decide⟩

theorem test_witness_synthFollows :
    (∀ st : SynthState, let s := synth (fun y => { y with state := st, history := 64 }) State.reset
        s.sel.selection = none ∧ s.synth.state = st ∧ s.synth.history = 64)
      ∧ State.reset.synth.history ≠ 64
      ∧ (let s := synth (fun y => { y with state := .locked }) (selected (validCand (.trunk 5) State.reset))
         s.synth.state = .locked ∧ s.sel.selection = some 0 ∧ (s.cfg.cands[0]).source = .trunk 5)
      ∧ ((acquiring id).cfg.cands[0]).source = .station .s1 :=
  ⟨fun _ => ⟨rfl, rfl, rfl⟩, by decide, by decide, by decide⟩

theorem test_witness_phaseSample :
    State.reset.synth.state = .freerun
      ∧ (let s := acquiring fun y => { y with o := 924, lockCount := 7, acquireTimer := 1023 }
         s.synth.state = .acquire ∧ s.sel.selection = some 0 ∧ (s.cands[0]).latest = some 100
          ∧ s.synth.lockCount < 8 ∧ s.synth.acquireTimer + 1 = 1024
          ∧ (Claim.phase s.synth (Claim.raw s.gen.frameStart 100)).natAbs ≤ 4)
      ∧ (let s := acquiring fun y => { y with o := 919, acquireTimer := 1022 }
         s.synth.acquireTimer + 1 < 1024 ∧ (Claim.phase s.synth (Claim.raw s.gen.frameStart 100)).natAbs = 5)
      ∧ (let s := acquiring fun y => { y with state := .locked, o := 891, lossCount := 1 }
         s.synth.state = .locked ∧ s.synth.lossCount < 2 ∧ s.synth.history ≤ 64
          ∧ 32 < (Claim.phase s.synth (Claim.raw s.gen.frameStart 100)).natAbs) := by decide

theorem test_witness_requests :
    (Claim.rowRequest (.identify .a 9 0) = some (.a, ⟨1, 9, [], 0⟩) ∧ Takes State.reset
        ∧ (State.reset.link .a).state = .ready ∧ (0 : Word16) ≠ checkFor 1 9 [])
      ∧ (Takes (onA (fun k => { k with state := .serving }) State.reset)
          ∧ ((onA (fun k => { k with state := .serving }) State.reset).link .a).state ≠ .ready)
      ∧ Ready State.reset .b ∧ (0 : Octet) = 0 ∧ 12 < (13#8).toNat :=
  ⟨⟨rfl, takes_of_takesNow (by decide), rfl, by decide⟩, ⟨takes_of_takesNow (by decide), by decide⟩,
    ready_of_takesNow (by decide) rfl, rfl, by decide⟩

/-- A response waits on the link, in a state in which its request is answered aside. -/
theorem test_witness_responseWaiting :
    let s := after (.identify .a 2 0) (after (.identify .a 1 0) State.reset)
    Takes s ∧ (s.link .a).state = .serving ∧ (s.link .a).waiting ≠ [] :=
  ⟨takes_of_takesNow (by decide), by decide, by decide⟩

theorem test_witness_requestsThatNoRowSpells :
    (State.reset.link .a).state = .ready ∧ ([7] : List Octet).length ≠ 0 ∧ ([] : List Octet).length ≠ 1
      ∧ ([1] : List Octet).length ≠ 2 ∧ ([1, 1] : List Octet).length ≠ 3 ∧ ([1, 0, 0] : List Octet).length ≠ 4
      ∧ ([1, 0] : List Octet).length < 3 ∧ ((0#8).toNat = 0 ∧ 7 < (8#8).toNat)
      ∧ ((3#8) ≠ 1 ∧ (3#8) ≠ 2) ∧ ([3] : List Octet) ≠ [1] ∧ ([3] : List Octet) ≠ [2]
      ∧ ((onA (fun k => { k with state := .waiting }) State.reset).link .a).state ≠ .ready := by decide

theorem test_witness_read :
    Ready State.reset .a ∧ (stageItemOf 0 0 0 = none ∧ statusItemOf 0 0 = none)
      ∧ (stageItemOf 1 47 0 = some (.trunk 47) ∧ stageItemOf 1 48 0 = none)
      ∧ stagedFor (State.reset.link .a).staging (.trunk 47) = none
      ∧ stagedFor [.trunk 47 ⟨true, 4⟩] (.trunk 47) = some (.trunk 47 ⟨true, 4⟩)
      ∧ statusItemOf 16 47 = some (.trunk 47) ∧ statusItemOf 19 0 = some (.wander 0) ∧ 1 < (2#8).toNat :=
  ⟨ready_of_takesNow (by decide) rfl, by decide, by decide, by decide, by decide, by decide, by decide, by decide⟩

theorem test_witness_statusOfAFramer :
    ((nearlyDone true 2).framers[5]).state = .aligned ⟨6, true, 2⟩ ∧ (State.reset.framers[5]).state.isAligned = false := by
  decide

theorem test_witness_stage :
    Ready State.reset .a ∧ stageItemOf 0 0 0 = none ∧ stageItemOf 1 5 0 = some (.trunk 5)
      ∧ ([1] : List Octet).length ≠ (StageItem.trunk 5).valueLength
      ∧ ([1, 4] : List Octet).length = (StageItem.trunk 5).valueLength
      ∧ stagedValue (.trunk 5) [1, 4] = some (.trunk 5 ⟨true, 4⟩)
      ∧ stagedValue (.output 0) [16] = none ∧ ([16] : List Octet).length = (StageItem.output 0).valueLength :=
  ⟨ready_of_takesNow (by decide) rfl, by decide, by decide, by decide, by decide, by decide, by decide, by decide⟩

theorem test_witness_clamps :
    (List.replicate 32 (7 : Octet)).length = 32 ∧ (8 < (9#8).toNat ∧ 1 < (2#8).toNat)
      ∧ (8#8, RuleField.station) ∈ [(0#8, RuleField.ql), (8, .station)] ∧ 2 < (3#8).toNat ∧ 48 ≤ (48#8).toNat ∧ (47#8).toNat = (47 : Trunk).val ∧ 3 < (4#8).toNat ∧ 47 < (48#8).toNat
      ∧ 15 < (16#8).toNat ∧ (15#8).toNat = (15 : Ql).val ∧ 7 < (8#8).toNat ∧ (7#8).toNat = (7 : Fin 8).val
      ∧ (3#8).toNat = (3 : Fin 4).val := by decide

/-- Link A with trunk 5's enable staged. -/
def staged : State := onA (fun k => { k with staging := [.trunk 5 ⟨true, 4⟩] }) State.reset

theorem test_witness_commit :
    (Ready State.reset .a ∧ (State.reset.link .a).staging = [])
      ∧ (Ready staged .a ∧ (staged.link .a).staging ≠ [] ∧ staged.commit = none ∧ staged.generation = 0
          ∧ (((staged.link .a).staging.foldl Settings.put staged.cfg).rules[15]).join = false
          ∧ ∀ c : Cand, (((staged.link .a).staging.foldl Settings.put staged.cfg).cands[c]).enabled = false)
      ∧ (Ready { staged with commit := some ⟨.b, 1⟩ } .a
          ∧ ({ staged with commit := some ⟨.b, 1⟩ } : State).commit ≠ none)
      ∧ (let s := onA (fun k => { k with staging := [.rule 15 { Rule.reset with join := true }] }) State.reset
         Ready s .a ∧ (((s.link .a).staging.foldl Settings.put s.cfg).rules[15]).join = true) :=
  ⟨⟨ready_of_takesNow (by decide) rfl, by decide⟩,
    ⟨ready_of_takesNow (by decide) rfl, by decide, by decide, by decide, by decide, by decide⟩,
    ⟨ready_of_takesNow (by decide) rfl, by decide⟩, ready_of_takesNow (by decide) rfl, by decide⟩

/-- A commit of link A at the multiframe start that is due. -/
def applying (items : List ItemValue) (s : State) : State :=
  tick 3072 (frame 15 (onA (fun k => { k with staging := items, state := .waiting
                                              outstanding := some { kind := 4, tag := 7, work := .commit } })
    { s with commit := some { link := .a, start := 1 } }))

theorem test_witness_commitApply :
    (Takes State.reset ∧ commitDue State.reset = none)
      ∧ (let s := applying [.trunk 5 ⟨true, 4⟩, .candidate 0 ⟨true, .trunk 5, 1, 2⟩] State.reset
         Takes s ∧ commitDue s = some .a
          ∧ (s.link .a).outstanding = some { kind := 4, tag := 7, work := .commit } ∧ .b ≠ LinkId.a)
      ∧ (let s := applying [.trunk 5 ⟨false, 4⟩] (holding .run 2 State.reset)
         Takes s ∧ commitDue s = some .a ∧ (s.cfg.trunks[5]).enabled = true
          ∧ (s.framers[5]).state.isAligned = true)
      ∧ (let s := { frame 0 (tick 0 (applying [.lane .a 3 .idle] State.reset)) with commit := some ⟨.a, 0⟩ }
         Takes s ∧ commitDue s = some .a ∧ ¬ Claim.Due s) :=
  ⟨⟨takes_of_takesNow (by decide), by decide⟩,
    ⟨takes_of_takesNow (by decide), by decide, by decide, by decide⟩,
    ⟨takes_of_takesNow (by decide), by decide, by decide, by decide⟩,
    takes_of_takesNow (by decide), by decide, by decide⟩

/-- The hypotheses of the apply in its order, of a trunk enabled and disabled, and of a candidate that changes and does not. -/
theorem test_witness_commitApplyInOrder :
    (let s := applying [.candidate 0 ⟨false, .none, 1, 0⟩] (forced (some 0) (manualFor (validCand (.trunk 5) State.reset)))
     Takes s ∧ commitDue s = some .a ∧ s.multiframeAt = some 1 ∧ (s.link .a).outstanding = some ⟨4, 7, .commit⟩)
      ∧ ((Settings.reset.trunks[5]).enabled = false ∧ ((trunkOn State.reset).cfg.trunks[5]).enabled = true)
      ∧ ((Settings.reset.cands[0]).enabled ≠ ((candOn (.trunk 5) State.reset).cfg.cands[0]).enabled) :=
  ⟨⟨takes_of_takesNow (by decide), by decide, by decide, by decide⟩, by decide, by decide⟩

theorem test_witness_events :
    Ready State.reset .a ∧ ((0#8).toNat = 0 ∧ 8 < (9#8).toNat) ∧ (1 ≤ (1#8).toNat ∧ (8#8).toNat ≤ 8)
      ∧ ((63#8).toNat < 64 ∧ ¬ (64#8).toNat < 64) ∧ (State.reset.link .a).queue.length < 32
      ∧ (State.reset.link .a).mask.getLsbD 1 = false ∧ (State.reset.link .a).mask.getLsbD 0 = true :=
  ⟨ready_of_takesNow (by decide) rfl, by decide, by decide, by decide, by decide, by decide, by decide⟩

theorem test_witness_resets :
    Takes staged ∧ checkFor 12 9 [1] = checkOf [12, 9, 1, 1] ∧ staged.commit = none
      ∧ ({ staged with commit := some ⟨.a, 1⟩ } : State).commit = some ⟨.a, 1⟩
      ∧ State.reset.synth.history ≠ 64 :=
  ⟨takes_of_takesNow (by decide), rfl, by decide, by decide, by decide⟩

/-- Link A with a request in reception. -/
def receiving (os : List Octet) : State := onA (fun k => { k with reception := os, octetFrom := some 0 }) State.reset

theorem test_witness_reception :
    (Takes State.reset ∧ (State.reset.link .a).reception = [])
      ∧ (Takes (receiving [0x7E, 1]) ∧ ((receiving [0x7E, 1]).link .a).reception = [0x7E, 1])
      ∧ (Takes (receiving [0x7E, 8, 1]) ∧ (64#8).toNat ≤ 64 ∧ 64 < (65#8).toNat
          ∧ ((receiving [0x7E, 8, 1]).link .a).state = .ready
          ∧ ((onA (fun k => { k with state := .waiting }) (receiving [0x7E, 8, 1])).link .a).state ≠ .ready)
      ∧ (Takes (receiving [0x7E, 8, 1, 1, 5]) ∧ ([5] : List Octet).length ≤ (1#8).toNat)
      ∧ (Takes (receiving (0x7E :: 8 :: 1 :: 1 :: [5] ++ [0x12])) ∧ ([5] : List Octet).length = (1#8).toNat)
      ∧ (Takes (tick 6291 (receiving [0x7E])) ∧ ((tick 6291 (receiving [0x7E])).gen.tick - 0).toNat < 6292)
      ∧ (Takes (tick 6292 (receiving [0x7E])) ∧ 6292 ≤ ((tick 6292 (receiving [0x7E])).gen.tick - 0).toNat
          ∧ ((tick 6292 (receiving [0x7E])).link .a).octetFrom = some 0) :=
  ⟨⟨takes_of_takesNow (by decide), by decide⟩, ⟨takes_of_takesNow (by decide), by decide⟩,
    ⟨takes_of_takesNow (by decide), by decide, by decide, by decide, by decide⟩,
    ⟨takes_of_takesNow (by decide), by decide⟩, ⟨takes_of_takesNow (by decide), by decide⟩,
    ⟨takes_of_takesNow (by decide), by decide⟩, takes_of_takesNow (by decide), by decide, by decide⟩

theorem test_witness_responseSent :
    (Takes State.reset ∧ (State.reset.link .a).sending = none)
      ∧ (let s := after (.identify .a 1 (checkFor 1 1 [])) State.reset
         Takes s ∧ (s.link .a).sending.isSome = true ∧ (s.link .a).waiting = [])
      ∧ (let s := after (.identify .a 2 (checkFor 1 2 [])) (after (.identify .a 1 (checkFor 1 1 [])) State.reset)
         Takes s ∧ (s.link .a).sending.isSome = true ∧ (s.link .a).waiting ≠ []) :=
  ⟨⟨takes_of_takesNow (by decide), by decide⟩, ⟨takes_of_takesNow (by decide), by decide, by decide⟩,
    takes_of_takesNow (by decide), by decide, by decide⟩

/-- The part some ticks after its release. -/
def later : State := tick 100 State.reset

theorem test_witness_queuesFit : QueuesFit (quiet later) ∧ ∃ t, step (quiet later) = .next t :=
  ⟨by unfold QueuesFit Link.queueFits; decide, _, rfl⟩

theorem test_witness_synthesizerSound : (SynthInRange later ∧ SynthFollows later) ∧ ∃ t, step later = .next t := by
  refine ⟨⟨⟨⟨by decide, by decide⟩, ⟨by decide, by decide⟩, ⟨by decide, by decide⟩, by decide, by decide, by decide,
    ⟨by decide, by decide⟩, fun l => ?_⟩, by unfold SynthFollows; decide⟩, _, rfl⟩
  cases l <;> simp [later, tick, State.setGen, State.reset, State.released, State.link, Link.reset]

theorem test_witness_storesSound : StoresSound later ∧ ∃ t, step later = .next t := by
  refine ⟨fun t => ?_, _, rfl⟩
  simp [later, tick, State.setGen, State.reset, State.released, Store.reset, Store.sound, Framer.reset,
    FramerState.isAligned, Settings.reset]

theorem test_witness_selectorSound : SelectorSound later ∧ ∃ t, step later = .next t := by
  refine ⟨⟨⟨fun f hf => ?_, fun f hf => ?_⟩, fun c => ?_, fun c hc => ?_⟩, _, rfl⟩
  · simp [later, tick, State.setGen, State.reset, State.released, Selector.reset] at hf
  · simp [later, tick, State.setGen, State.reset, State.released, Selector.reset] at hf
  · simp [later, tick, State.setGen, State.reset, State.released, Runtime.reset, Settings.reset]
  · simp [later, tick, State.setGen, State.reset, State.released, Selector.reset] at hc

/-! ### One step of each command -/

/-- The check of 5.3 gives the known value of a CRC with its polynomial and initial value for the octets "1" to "9". -/
theorem test_check : checkOf [0x31, 0x32, 0x33, 0x34, 0x35, 0x36, 0x37, 0x38, 0x39] = 0x29B1 := by decide

/-- The octets of a response, from its start octet to its check (5.3). -/
theorem test_responseOctets :
    (Response.octets { kind := 0x81, tag := 7, status := .conflict, generation := 0x0102, flags := 5, body := [9] }).take 9
      = [0x7E, 0x81, 7, 10, 1, 2, 5, 1, 9] := by decide

/-- The response a link is sending: kind, status and body. -/
def said (k : Link) : Option (Octet × Status × List Octet) := k.sending.map fun r => (r.kind, r.status, r.body)

theorem test_trunkOctet_entersAligned :
    let t := after (.trunkOctetArrival 5 0xA5) (quiet (confirming kept72))
    (t.framers[5]).state = .aligned ⟨5, false, 0⟩ ∧ (t.stores[5]).state = .priming
      ∧ (t.stores[5]).inProgress = [0xB4, 0xA5] ∧ heard t.linkA = [(.trunkState, 0x0304)] := by decide

theorem test_trunkOctet_completesAFrame :
    let t := after (.trunkOctetArrival 5 9) (nearlyDone false 0)
    (t.stores[5]).inProgress = []
      ∧ (t.stores[5]).queue = [{ record 7 0 with rdi := true, number := 6
                                                 traffic := (Vector.replicate 32 7).set 31 9 }]
      ∧ (t.framers[5]).rdi = true ∧ (t.framers[5]).qlRun = 1 ∧ (t.framers[5]).qlLast = 3
      ∧ heard t.linkA = [(.reset, 1), (.trunkAlarm, 4)] := by decide

theorem test_lossOfSignal :
    let t := after (.lossOfSignalExpiry 5) (quiet (silent (.hunt false) 6144))
    (t.framers[5]).state = .noSignal ∧ (t.framers[5]).los = true ∧ (t.framers[5]).losFrom = none
      ∧ heard t.linkA = [(.trunkState, 0x0201), (.trunkAlarm, 1)] := by decide

theorem test_frameStart_readsAStore :
    let t := after (.exchangeFrameStart 0) (atStart (holding .run 1 State.reset))
    t.gen.frameStart = 3072 ∧ t.gen.frameNumber = 1 ∧ t.gen.frameLength = 3072
      ∧ (t.out.handed[5]).delivered = .fresh (record 7 500) ∧ (t.stores[5]).transit = some 2572
      ∧ (t.out.lanesA[5]).octets = 0xB4 :: 0xA1 :: 0x0E :: 5 :: List.replicate 32 7 := by decide

theorem test_frameStart_carriesTheResidue :
    let t := after (.exchangeFrameStart 0) (atStart (synth (fun y => { y with f := 10000, r := 60000 }) State.reset))
    t.gen.frameLength = 3071 ∧ t.synth.r = 4464 := by decide

theorem test_captureCompletion :
    let t := after (.captureCompletion .a) handedOver
    said t.linkA = some (0x88, .ok, [1, 6, 0x30, 1, 0x0A, 0x0C] ++ List.replicate 32 7)
      ∧ t.linkA.state = .serving ∧ t.linkA.outstanding = none ∧ t.linkA.capture.isSome = true := by decide

theorem test_waitEnd :
    let s := tick 3072 (frame 15 (cand (fun r => { r with wait := some (.definite 1 0) }) State.reset))
    ((after (.waitEnd 0) s).cands[0]).wait = none ∧ ((after (.waitEnd 0) (tick 3071 s)).cands[0]).wait ≠ none := by
  decide

theorem test_waitEnd_countsEveryWait :
    let s := tick 3072 (frame 15 (cand (fun r => { r with wait := some (.definite 1 0) }) State.reset))
    let t := after (.waitEnd 0) (s.setCand 1 { s.cands[1] with wait := some (.definite 7 0) })
    (t.cands[0]).wait = none ∧ (t.cands[1]).wait = some (.definite 6 1) := by decide

theorem test_acquireTimeout :
    let t := after .acquireTimeout (quiet (acquiring fun y => { y with acquireTimer := 1024 }))
    t.synth.state = .freerun ∧ t.synth.timeoutCount = 0 ∧ t.sel.selection = none
      ∧ (t.cands[0]).lockFail = true ∧ (t.cands[0]).wait = some (.definite 150000 0)
      ∧ heard t.linkA = [(.acquireTimeout, 1), (.selection, 0x0710), (.synthState, 0x0100)] := by decide

theorem test_slipWindowEnd :
    let t := after (.slipWindowEnd 5)
      (store (fun x => { x with windowComplete := true, windowCount := 3, slipExcess := true }) (quiet windowBoundary))
    (t.stores[5]).windowFrom = 4096 ∧ (t.stores[5]).slipRate = some 3 ∧ (t.stores[5]).windowCount = 0
      ∧ t.linkA.queue = [] ∧ slipWindowDue t 5 = none ∧ slipWindowDue t 6 = some 4096 := by decide

theorem test_trunkOctet_countsAnErroredFrame :
    let t := after (.trunkOctetArrival 5 9) (nearlyDone true 1)
    (t.framers[5]).alignErrors = 1 ∧ (t.framers[5]).state = .aligned ⟨6, true, 2⟩
      ∧ ((after (.trunkOctetArrival 5 0xA7) (aligned ⟨6, false, 1⟩ [0xB4] State.reset)).framers[5]).alignErrors = 0 := by
  decide

theorem test_highwayClock :
    highwayClock State.reset = true ∧ highwayClock (tick 2 State.reset) = true ∧ highwayClock (tick 3 State.reset) = false
      ∧ highwayClock (tick 3070 State.reset) = true ∧ highwayClock (tick 3071 State.reset) = false
      ∧ highwayClock { State.reset with pinHeld := true } = false := by decide

theorem test_stationEdge :
    let t := after (.stationInputEdge .s1)
      (tick 500 (quiet (cand (fun r => { r with state := .inactive }) (candOn (.station .s1) State.reset))))
    (t.cands[0]).state = .measuring ∧ (t.cands[0]).latest = some 500 ∧ heard t.linkA = [(.monitor, 0x0102)] := by
  decide

theorem test_windowEnd :
    let t := after (.windowEnd 0) (quiet (window 512))
    (t.cands[0]).state = .valid ∧ (t.cands[0]).deviation = some 0 ∧ (t.cands[0]).windowStart = some 1572964
      ∧ heard t.linkA = [(.monitor, 0x0203)] := by decide

theorem test_activityExpiry :
    let t := after (.activityTimerExpiry 0) (tick 9216 (quiet (validCand (.station .s1) State.reset)))
    (t.cands[0]).state = .inactive ∧ (t.cands[0]).cls = 0
      ∧ heard t.linkA = [(.monitor, 0x0301), (.cls, 0x0200)] := by decide

/-- An activity loss ahead of the class evaluation of its instant: class 0 at once, its CLASS event at the evaluation, once,
with the epoch that begins (R99, R101; assumption 26). -/
theorem test_activityLossBeforeTheEvaluation :
    let s := { quiet (validCand (.station .s1) State.reset) with
      gen := { tick := 9216, frameStart := 6144, frameLength := 3072, frameNumber := 15, epoch := 0, frameQl := 14 } }
    let u := after (.activityTimerExpiry 0) s
    let t := gradeCandidate 0 (gradeCandidate 0 (advanceGenerator u))
    (u.cands[0]).cls = 0 ∧ (u.cands[0]).lostCls = some 2 ∧ heard u.linkA = [(.monitor, 0x0301)]
      ∧ heard t.linkA = [(.monitor, 0x0301), (.cls, 0x0200)] ∧ (t.cands[0]).lostCls = none
      ∧ t.linkA.queue.map Event.epoch = [0, 1] := by decide

theorem test_commitApply :
    let t := after (.commitApply 0)
      (quiet (applying [.trunk 5 ⟨true, 4⟩, .candidate 0 ⟨true, .trunk 5, 1, 2⟩] State.reset))
    t.generation = 1 ∧ (t.framers[5]).state = .noSignal ∧ (t.cands[0]).state = .inactive ∧ t.commit = none
      ∧ said t.linkA = some (0x84, .ok, []) ∧ t.linkA.staging = []
      ∧ heard t.linkB = [(.configCommitted, 1), (.trunkState, 1), (.monitor, 1)] := by decide

/-- A candidate that the apply disables after its activity loss at the same instant still has its one CLASS event, before the
MONITOR of its reset (R99; assumption 26). -/
theorem test_activityLossThenDisable :
    let t := after (.commitApply 0) (quiet (applying [.candidate 0 ⟨false, .none, 1, 0⟩]
      (cand (fun r => { r with state := .inactive, lostCls := some 2 }) (candOn (.station .s1) State.reset))))
    (t.cands[0]).state = .absent ∧ (t.cands[0]).lostCls = none
      ∧ heard t.linkB = [(.configCommitted, 1), (.cls, 0x0200), (.monitor, 0x0100)] := by decide

/-- A trunk's disable takes the selected candidate away: its evaluation goes by the old priorities, by which candidate 2 comes
before candidate 3, and the commit's own evaluation, with revertive on, by the new ones (R103, R124; assumption 27). -/
theorem test_evaluationsOfAnApply :
    let valid : Runtime := { Runtime.reset with state := .valid, cls := 2, hasQualified := true }
    let s := aligned ⟨6, false, 0⟩ [] (selected (validCand (.trunk 5) State.reset))
    let u := config (fun k => { k with cands := (k.cands.set 1 ⟨true, .station .s1, 1, 2⟩).set 2 ⟨true, .station .s2, 2, 2⟩ })
      ((s.setCand 1 valid).setCand 2 valid)
    let t := after (.commitApply 0) (quiet (applying
      [.trunk 5 ⟨false, 4⟩, .candidate 1 ⟨true, .station .s1, 3, 2⟩, .selector ⟨true, true, 300, 4⟩] u))
    t.linkB.queue.filterMap (fun e => if e.kind = .selection then some e.detail else none) = [0x0212, 0x0523] := by decide

theorem test_interOctetExpiry :
    (after (.interOctetTimerExpiry .a) (tick 6292 (receiving [0x7E]))).linkA.reception = []
      ∧ (after (.interOctetTimerExpiry .a) (tick 6291 (receiving [0x7E]))).linkA.reception = [0x7E] := by decide

theorem test_responseSent :
    let t := after (.responseSent .a) (after (.identify .a 1 (checkFor 1 1 [])) State.reset)
    t.linkA.sending = none ∧ t.linkA.state = .ready := by decide

theorem test_identify :
    let t := after (.identify .a 1 (checkFor 1 1 [])) State.reset
    said t.linkA = some (0x81, .ok, [0x00, 0xB7, 0x72, 0x48, 0x01]) ∧ t.linkA.state = .serving := by decide

theorem test_read_timingStatus :
    said (after (.read .a 1 23 0 0 0 (checkFor 2 1 [23, 0, 0, 0])) (tick 258 State.reset)).linkA
      = some (0x82, .ok, [0, 0, 1, 2, 0, 0, 0, 0, 0x0C, 0x00, 0, 0, 0, 0, 0, 14, 0, 0]) := by decide

theorem test_read_selectorConfig :
    said (after (.read .b 1 7 0 0 0 (checkFor 2 1 [7, 0, 0, 0])) State.reset).linkB
      = some (0x82, .ok, [1, 0, 0x01, 0x2C, 4]) := by decide

theorem test_stage_clamps :
    let t := after (.stage .a 1 1 5 0 [1, 99] (checkFor 3 1 [1, 5, 0, 1, 99])) State.reset
    said t.linkA = some (0x83, .ok, [1, 15]) ∧ t.linkA.staging = [.trunk 5 ⟨true, 15⟩] := by decide

theorem test_commit :
    (let t := after (.commit .a 1 0 (checkFor 4 1 [0, 0])) staged
     t.linkA.state = .waiting ∧ t.commit = some ⟨.a, 1⟩ ∧ said t.linkA = none)
      ∧ said (after (.commit .a 1 41 (checkFor 4 1 [0, 41])) staged).linkA = some (0x84, .stale, []) := by decide

/-- At the instant of a multiframe start that is still due, a COMMIT waits for it, and after an apply for the next. -/
theorem test_commit_atAMultiframeStart :
    let take := fun u : State => (after (.commit .a 1 0 (checkFor 4 1 [0, 0])) (tick 3072 (frame 15 u))).commit
    take staged = some ⟨.a, 1⟩ ∧ take { staged with applied := true } = some ⟨.a, 2⟩ := by decide

theorem test_discard : (after (.discard .a 1 (checkFor 5 1 [])) staged).linkA.staging = [] := by decide

theorem test_lockout_ofTheSelected :
    let t := after (.lockout .a 1 1 0 (checkFor 6 1 [1, 1, 0])) (quiet (acquiring id))
    t.sel.lockout[0] = true ∧ t.sel.selection = none ∧ said t.linkA = some (0x86, .ok, [0])
      ∧ heard t.linkA = [(.selection, 0x0310), (.synthState, 0x0100)] := by decide

theorem test_unlock_notStanding :
    said (after (.unlock .a 1 1 0 (checkFor 6 1 [2, 1, 0])) State.reset).linkA = some (0x86, .notStanding, [0]) := by
  decide

theorem test_force :
    let t := after (.force .b 1 1 0 (checkFor 6 1 [3, 1, 0])) (quiet (validCand (.trunk 5) State.reset))
    said t.linkB = some (0x86, .ok, [1]) ∧ t.sel.selection = some 0 ∧ t.synth.state = .acquire
      ∧ heard t.linkA = [(.selection, 0x0301), (.synthState, 0x0001)] := by decide

theorem test_forceHoldover :
    let t := after (.forceHoldover .a 1 0 0 (checkFor 6 1 [4, 0, 0])) (acquiring id)
    t.sel.selection = none ∧ t.sel.forced = some { target := none, link := .a, epoch := 0, ret := some 0 }
      ∧ t.synth.state = .freerun := by decide

theorem test_manual :
    (after (.manual .a 1 1 0 (checkFor 6 1 [5, 1, 0])) (validCand (.trunk 5) State.reset)).sel.selection = some 0
      ∧ said (after (.manual .a 1 1 0 (checkFor 6 1 [5, 1, 0])) State.reset).linkA
          = some (0x86, .notEligible, [0]) := by decide

theorem test_releaseForced_withReturn :
    let t := after (.releaseForced .a 1 1 (checkFor 6 1 [6, 1, 1])) (forced none (quiet (validCand (.trunk 5) State.reset)))
    t.sel.forced = none ∧ t.sel.selection = some 0 ∧ heard t.linkA = [(.selection, 0x0401), (.synthState, 0x0001)] := by
  decide

theorem test_releaseManual :
    let t := after (.releaseManual .a 1 0 (checkFor 6 1 [6, 2, 0])) (manualFor State.reset)
    t.sel.manual = none ∧ said t.linkA = some (0x86, .ok, [0]) := by decide

theorem test_clearWait :
    let t := after (.clearWait .a 1 1 0 (checkFor 6 1 [7, 1, 0]))
      (cand (fun r => { r with wait := some .indefinite }) (validCand (.trunk 5) State.reset))
    (t.cands[0]).wait = none ∧ said t.linkA = some (0x86, .ok, [1]) := by decide

theorem test_restart :
    let t := after (.restart .a 1 5 (checkFor 7 1 [1, 5])) (quiet (aligned ⟨6, false, 0⟩ [0xB4] State.reset))
    (t.framers[5]).state = .hunt false ∧ (t.stores[5]).state = .idle ∧ (t.stores[5]).inProgress = []
      ∧ said t.linkA = some (0x87, .ok, []) ∧ heard t.linkB = [(.trunkState, 0x0402)] := by decide

theorem test_recenter :
    let t := after (.recenter .a 1 5 (checkFor 7 1 [2, 5])) (holding .run 2 State.reset)
    (t.stores[5]).state = .priming ∧ (t.stores[5]).queue = []
      ∧ (t.stores[5]).history = [{ kind := .recenter, epoch := 0, frame := 0, held := 2 }] := by decide

theorem test_capture :
    let t := after (.capture .a 1 5 (checkFor 8 1 [5])) State.reset
    t.linkA.state = .waiting ∧ said t.linkA = none := by decide

theorem test_events :
    let t := after (.events .a 1 8 (checkFor 9 1 [8])) State.reset
    said t.linkA = some (0x89, .ok, [15, 0xFF, 0, 0, 0, 0, 0, 1]) ∧ t.linkA.queue = [] ∧ t.linkB.queue ≠ [] := by
  decide

theorem test_clearCounters :
    let t := after (.clearCounters .a 1 (checkFor 10 1 [1])) (store (fun x => { x with repeats := 7 }) (quiet State.reset))
    (t.stores[5]).repeats = 0 ∧ heard t.linkB = [(.countersCleared, 0)] := by decide

theorem test_clearResetCause : (after (.clearResetCause .a 1 (checkFor 10 1 [2])) State.reset).cause = 0 := by decide

theorem test_mask :
    (after (.mask .a 1 0x3F (checkFor 11 1 [0x3F])) State.reset).linkA.mask = 0x3F
      ∧ said (after (.mask .a 1 0x40 (checkFor 11 1 [0x40])) State.reset).linkA = some (0x8B, .badValue, []) := by
  decide

theorem test_resetLink :
    let t := after (.resetLink .a 1 (checkFor 12 1 [1])) { staged with commit := some ⟨.a, 1⟩ }
    t.linkA.staging = [] ∧ t.linkA.queue = [] ∧ t.commit = none ∧ said t.linkA = some (0x8C, .ok, [])
      ∧ t.linkB.queue ≠ [] := by decide

theorem test_resetPart :
    let t := after (.resetPart .b 1 (checkFor 12 1 [2])) (selected (validCand (.trunk 5) State.reset))
    t.cause = 0x09 ∧ heard t.linkA = [(.reset, 9)] ∧ heard t.linkB = [(.reset, 9)] ∧ t.sel.selection = none
      ∧ (t.cands[0]).state = .inactive ∧ (t.cands[0]).cls = 0 := by decide

theorem test_pinReset :
    let t := after .pinResetRelease (after .pinResetAssert (trunkOn State.reset))
    t.cause = 2 ∧ t.pinHeld = false ∧ (t.cfg.trunks[5]).enabled = false ∧ heard t.linkA = [(.reset, 2)] := by decide

theorem test_powerOnReset :
    (after .powerOnResetRelease (trunkOn State.reset)).cause = 1
      ∧ ((after .powerOnResetRelease (trunkOn State.reset)).cfg.trunks[5]).enabled = false := by decide

theorem test_requestLine_lastOctet :
    let k := checkFor 1 9 []
    said (after (.requestLineOctetArrival .a (k.extractLsb' 0 8))
        (receiving [0x7E, 1, 9, 0, k.extractLsb' 8 8])).linkA
      = some (0x81, .ok, [0x00, 0xB7, 0x72, 0x48, 0x01]) := by decide

theorem test_badKind :
    said (after (.badKindRequest .a 1 13 [7] (checkFor 13 1 [7])) State.reset).linkA = some (0x8D, .badKind, [])
      ∧ said (after (.badKindRequest .a 1 0 [] 0x1234) State.reset).linkA = some (0x80, .badCheck, []) := by decide

theorem test_step_takesTheFront :
    step { State.reset with pending := [.clearResetCause .a 1 (checkFor 10 1 [2])] }
      = exec (.clearResetCause .a 1 (checkFor 10 1 [2])) State.reset := rfl

theorem test_core : Sys2Proof.core.reset = State.reset ∧ decodeTableWord 8 0 = none := ⟨rfl, rfl⟩

end Sys2Proof.Tests
end

section
/-! SUPPORT. Which trunks an operation acts on, and what a trunk's framer and store then hold. -/

namespace Sys2Proof.Machine

/-! ### One trunk's framer and store after a write -/

@[simp] theorem setFramer_same (s : State) (t : Trunk) (x : Framer) : (s.setFramer t x).framers[t] = x := by simp
@[simp] theorem setStore_same (s : State) (t : Trunk) (x : Store) : (s.setStore t x).stores[t] = x := by simp

theorem setFramer_other (s : State) (t m : Trunk) (x : Framer) (h : m ≠ t) :
    (s.setFramer t x).framers[m] = s.framers[m] := by
  simp [Fin.val_ne_of_ne h.symm]

theorem setStore_other (s : State) (t m : Trunk) (x : Store) (h : m ≠ t) :
    (s.setStore t x).stores[m] = s.stores[m] := by
  simp [Fin.val_ne_of_ne h.symm]

/-- A second write to a framer hides the first. -/
@[simp] theorem setFramer_setFramer (s : State) (t : Trunk) (x y : Framer) :
    (s.setFramer t x).setFramer t y = s.setFramer t y := by simp [State.setFramer]

@[simp] theorem setStore_setStore (s : State) (t : Trunk) (x y : Store) :
    (s.setStore t x).setStore t y = s.setStore t y := by simp [State.setStore]

@[simp] theorem setFramer_framer (s : State) (t : Trunk) : s.setFramer t s.framers[t] = s := by simp [State.setFramer]

/-! ### What the four reaches leave alone -/

theorem Works.cfg {s t : State} (h : Works s t) : t.cfg = s.cfg := by rw [h.1]
theorem Works.gen {s t : State} (h : Works s t) : t.gen = s.gen := by rw [h.1]
theorem Grades.framers {s t : State} (h : Grades s t) : t.framers = s.framers := by rw [h.1]
theorem Grades.stores {s t : State} (h : Grades s t) : t.stores = s.stores := by rw [h.1]
theorem Grades.cfg {s t : State} (h : Grades s t) : t.cfg = s.cfg := h.works.cfg
theorem Grades.gen {s t : State} (h : Grades s t) : t.gen = s.gen := h.works.gen
theorem Steers.cands {s t : State} (h : Steers s t) : t.cands = s.cands := by rw [h.1]

@[simp] theorem tellMonitors_framers (t : Trunk) (s : State) : (tellMonitors t s).framers = s.framers :=
  (tellMonitors_grades t s).framers
@[simp] theorem tellMonitors_stores (t : Trunk) (s : State) : (tellMonitors t s).stores = s.stores :=
  (tellMonitors_grades t s).stores
@[simp] theorem tellMonitors_cfg (t : Trunk) (s : State) : (tellMonitors t s).cfg = s.cfg :=
  (tellMonitors_grades t s).cfg
@[simp] theorem tellMonitors_gen (t : Trunk) (s : State) : (tellMonitors t s).gen = s.gen :=
  (tellMonitors_grades t s).gen
@[simp] theorem raiseMarker_framers (src : Source) (stamp : Tick) (s : State) :
    (raiseMarker src stamp s).framers = s.framers := (raiseMarker_grades src stamp s).framers
@[simp] theorem raiseMarker_stores (src : Source) (stamp : Tick) (s : State) :
    (raiseMarker src stamp s).stores = s.stores := (raiseMarker_grades src stamp s).stores
@[simp] theorem raiseAlarmFrom_framers (t : Trunk) (before : Nat) (s : State) :
    (raiseAlarmFrom t before s).framers = s.framers := (raiseAlarmFrom_reports t before s).grades.framers
@[simp] theorem raiseAlarmFrom_stores (t : Trunk) (before : Nat) (s : State) :
    (raiseAlarmFrom t before s).stores = s.stores := (raiseAlarmFrom_reports t before s).grades.stores
@[simp] theorem raiseAlarmFrom_gen (t : Trunk) (before : Nat) (s : State) :
    (raiseAlarmFrom t before s).gen = s.gen := (raiseAlarmFrom_reports t before s).grades.gen
@[simp] theorem recomputeQl_framers (s : State) : (recomputeQl s).framers = s.framers := rfl
@[simp] theorem recomputeQl_stores (s : State) : (recomputeQl s).stores = s.stores := rfl
@[simp] theorem raiseTrunkState_framers (t : Trunk) (old new : FramerState) (s : State) :
    (raiseTrunkState t old new s).framers = s.framers := rfl
@[simp] theorem raiseTrunkState_stores (t : Trunk) (old new : FramerState) (s : State) :
    (raiseTrunkState t old new s).stores = s.stores := rfl
@[simp] theorem raiseExcess_framers (t : Trunk) (v : Bool) (s : State) : (raiseExcess t v s).framers = s.framers := rfl
@[simp] theorem raiseExcess_stores (t : Trunk) (v : Bool) (s : State) : (raiseExcess t v s).stores = s.stores := rfl

/-! ### Operations on one trunk -/

/-- Only trunk n has had its framer or its store changed; the settings and the generator stand. -/
structure OnTrunk (n : Trunk) (s t : State) : Prop where
  cfg : t.cfg = s.cfg
  gen : t.gen = s.gen
  framers : ∀ m : Trunk, m ≠ n → t.framers[m] = s.framers[m]
  stores : ∀ m : Trunk, m ≠ n → t.stores[m] = s.stores[m]

theorem OnTrunk.trans {n : Trunk} {s t u : State} (h : OnTrunk n s t) (g : OnTrunk n t u) : OnTrunk n s u where
  cfg := g.cfg.trans h.cfg
  gen := g.gen.trans h.gen
  framers m hm := (g.framers m hm).trans (h.framers m hm)
  stores m hm := (g.stores m hm).trans (h.stores m hm)

/-- What touches no framer and no store is, of each trunk, an operation on it alone. -/
theorem Grades.onTrunk {s t : State} (h : Grades s t) (n : Trunk) : OnTrunk n s t where
  cfg := h.cfg
  gen := h.gen
  framers _ _ := by rw [h.framers]
  stores _ _ := by rw [h.stores]

theorem OnTrunk.refl (n : Trunk) (s : State) : OnTrunk n s s := (Grades.refl s).onTrunk n

theorem setFramer_onTrunk (n : Trunk) (x : Framer) (s : State) : OnTrunk n s (s.setFramer n x) :=
  ⟨rfl, rfl, fun m hm => setFramer_other s n m x hm, fun _ _ => rfl⟩

theorem setStore_onTrunk (n : Trunk) (x : Store) (s : State) : OnTrunk n s (s.setStore n x) :=
  ⟨rfl, rfl, fun _ _ => rfl, fun m hm => setStore_other s n m x hm⟩

theorem raise_onTrunk (n : Trunk) (kind : EventKind) (subject : Subject) (detail : Word16) (s : State) :
    OnTrunk n s (raise kind subject detail s) := (raise_reports ..).grades.onTrunk n

theorem raiseAlarmFrom_onTrunk (n : Trunk) (before : Nat) (s : State) : OnTrunk n s (raiseAlarmFrom n before s) :=
  (raiseAlarmFrom_reports ..).grades.onTrunk n

theorem leaveAligned_onTrunk (n : Trunk) (new : FramerState) (before : Option Nat) (s : State) :
    OnTrunk n s (leaveAligned n new before s) := by
  have out : ∀ x, OnTrunk n s (raiseTrunkState n s.framers[n].state new
      ((tellMonitors n (s.setStore n s.stores[n].flush)).setFramer n x)) := fun x =>
    (setStore_onTrunk ..).trans (((tellMonitors_grades ..).onTrunk n).trans ((setFramer_onTrunk ..).trans
      (raise_onTrunk ..)))
  unfold leaveAligned
  dsimp only
  split
  · exact (out _).trans (raiseAlarmFrom_onTrunk ..)
  · exact out _

/-- A framer that leaves ALIGNED has its aligned state cleared (R17 step 3). -/
theorem leaveAligned_framer (n : Trunk) (new : FramerState) (before : Option Nat) (s : State) :
    (leaveAligned n new before s).framers[n] = s.framers[n].clearAligned new := by
  cases before <;> simp [leaveAligned]

/-- The store of a framer that leaves ALIGNED is flushed (R22). -/
theorem leaveAligned_store (n : Trunk) (new : FramerState) (before : Option Nat) (s : State) :
    (leaveAligned n new before s).stores[n] = s.stores[n].flush := by
  cases before <;> simp [leaveAligned]

theorem slip_onTrunk (n : Trunk) (kind : SlipKind) (held : Nat) (s : State) : OnTrunk n s (slip n kind held s) := by
  have noted : ∀ x d, OnTrunk n s (raise .slip (.trunk n) d (s.setStore n x)) := fun x d =>
    (setStore_onTrunk ..).trans (raise_onTrunk ..)
  unfold slip
  dsimp only
  split
  · exact (noted ..).trans (raise_onTrunk ..)
  · exact noted ..

@[simp] theorem slip_framers (n : Trunk) (kind : SlipKind) (held : Nat) (s : State) :
    (slip n kind held s).framers = s.framers := by
  unfold slip
  dsimp only
  split <;> rfl

/-- The accounting of a slip at its store (R25, R29). -/
theorem slip_store (n : Trunk) (kind : SlipKind) (held : Nat) (s : State) :
    (slip n kind held s).stores[n]
      = s.stores[n].slipped (slipRecord s kind held) s.cfg.trunks[n].threshold := by
  unfold slip
  dsimp only
  split <;> simp

theorem storeArrival_onTrunk (n : Trunk) (r : FrameRecord) (s : State) : OnTrunk n s (storeArrival n r s) := by
  unfold storeArrival
  dsimp only
  split
  · exact OnTrunk.refl n s
  · exact setStore_onTrunk ..
  · split
    · exact setStore_onTrunk ..
    · exact (setStore_onTrunk ..).trans (slip_onTrunk ..)

@[simp] theorem storeArrival_framers (n : Trunk) (r : FrameRecord) (s : State) :
    (storeArrival n r s).framers = s.framers := by
  unfold storeArrival
  dsimp only
  split
  · rfl
  · rfl
  · split
    · rfl
    · simp

end Sys2Proof.Machine
end

section
/-! SUPPORT. A trunk's framer, store and enable fit together through every operation of the trunk's own (R2, R20 to R29). -/

namespace Sys2Proof.Machine

/-! ### The store's own soundness -/

@[simp] theorem slipped_state (x : Store) (note : SlipRecord) (n : Nat) : (x.slipped note n).state = x.state := by
  cases h : note.kind <;> simp [Store.slipped, Store.countSlip, h]
@[simp] theorem slipped_queue (x : Store) (note : SlipRecord) (n : Nat) : (x.slipped note n).queue = x.queue := by
  cases h : note.kind <;> simp [Store.slipped, Store.countSlip, h]
@[simp] theorem slipped_inProgress (x : Store) (note : SlipRecord) (n : Nat) :
    (x.slipped note n).inProgress = x.inProgress := by
  cases h : note.kind <;> simp [Store.slipped, Store.countSlip, h]
@[simp] theorem slipped_last (x : Store) (note : SlipRecord) (n : Nat) : (x.slipped note n).last = x.last := by
  cases h : note.kind <;> simp [Store.slipped, Store.countSlip, h]
@[simp] theorem slipped_history (x : Store) (note : SlipRecord) (n : Nat) :
    (x.slipped note n).history = pushBounded 4 x.history note := rfl

/-- A store that holds the same frames in the same state, with a history within its limit, is as sound. -/
theorem Store.sound.congr {x y : Store} (h : x.sound) (state : y.state = x.state) (queue : y.queue = x.queue)
    (inProgress : y.inProgress = x.inProgress) (last : y.last = x.last) (history : y.history.length ≤ 4) :
    y.sound := by
  obtain ⟨hq, -, hp, hs⟩ := h
  unfold Store.sound
  rw [state, queue, inProgress, last]
  exact ⟨hq, history, hp, hs⟩

theorem Store.sound.slipped {x : Store} (h : x.sound) (note : SlipRecord) (n : Nat) : (x.slipped note n).sound :=
  h.congr (by simp) (by simp) (by simp) (by simp) (pushBounded_length 4 _ note h.2.1 (by omega))

theorem Store.sound.flush {x : Store} (h : x.sound) : x.flush.sound := ⟨by simp [Store.flush], h.2.1, by simp [Store.flush],
  rfl, rfl, rfl⟩

/-- A store that is not IDLE may take any record and any frame in progress within its limits (R20, R24, R25). -/
theorem Store.sound.hold {x : Store} (h : x.sound) (busy : x.state ≠ .idle) (queue : List FrameRecord)
    (octets : List Octet) (hq : queue.length ≤ 4) (ho : octets.length ≤ 35) :
    ({ x with queue := queue, inProgress := octets } : Store).sound := by
  obtain ⟨-, hh, -, hs⟩ := h
  refine ⟨hq, hh, ho, ?_⟩
  cases hx : x.state <;> simp_all

/-! ### The fit of a framer state, a store and an enable -/

/-- The store is sound, in IDLE exactly while the framer is not ALIGNED, and the framer is OFF exactly while the trunk is
disabled. -/
def Fit (f : FramerState) (x : Store) (on : Bool) : Prop :=
  x.sound ∧ (x.state = .idle ↔ f.isAligned = false) ∧ (f = .off ↔ on = false)

theorem storesSound_iff (s : State) :
    StoresSound s ↔ ∀ t : Trunk, Fit (s.framers[t]).state s.stores[t] (s.cfg.trunks[t]).enabled := Iff.rfl

/-- A framer that is enabled and not ALIGNED: NO-SIGNAL, HUNT or CONFIRM. -/
def FramerState.Searching (f : FramerState) : Prop := f.isAligned = false ∧ f ≠ .off

theorem searching_noSignal : FramerState.noSignal.Searching := ⟨rfl, nofun⟩
theorem searching_hunt (w : Bool) : (FramerState.hunt w).Searching := ⟨rfl, nofun⟩
theorem searching_confirm (f : Fin 16) (os : List Octet) : (FramerState.confirm f os).Searching := ⟨rfl, nofun⟩

theorem huntOctet_searching (w : Bool) (o : Octet) : (huntOctet w o).Searching := by
  unfold huntOctet
  split
  · exact searching_confirm ..
  · exact searching_hunt _

theorem rescan_searching (os : List Octet) : (rescan os).Searching := by
  induction os with
  | nil => exact searching_hunt _
  | cons x xs ih =>
    unfold rescan
    split
    · split
      · exact searching_hunt _
      · split
        · exact searching_confirm ..
        · exact ih
    · exact ih

theorem Fit.searches {f g : FramerState} {x : Store} {on : Bool} (h : Fit f x on) (hf : f.Searching)
    (hg : g.Searching) : Fit g x on := by
  obtain ⟨sound, idle, off⟩ := h
  exact ⟨sound, by rw [idle, hf.1, hg.1], by rw [← off]; exact iff_of_false hg.2 hf.2⟩

/-- A framer that leaves ALIGNED leaves its store flushed (R22). -/
theorem Fit.leaves {a : Alignment} {g : FramerState} {x : Store} {on : Bool} (h : Fit (.aligned a) x on)
    (hg : g.Searching) : Fit g x.flush on := by
  obtain ⟨sound, -, off⟩ := h
  exact ⟨sound.flush, iff_of_true rfl hg.1, by rw [← off]; exact iff_of_false hg.2 nofun⟩

/-- A framer that stays ALIGNED may have any sound store that is not IDLE. -/
theorem Fit.stays {a b : Alignment} {x y : Store} {on : Bool} (h : Fit (.aligned a) x on) (sound : y.sound)
    (state : y.state = x.state) : Fit (.aligned b) y on := by
  obtain ⟨-, idle, off⟩ := h
  exact ⟨sound, by rw [state, idle]; rfl, by rw [← off]; exact iff_of_false nofun nofun⟩

theorem Fit.busy {a : Alignment} {x : Store} {on : Bool} (h : Fit (.aligned a) x on) : x.state ≠ .idle := by
  intro hx
  exact absurd (h.2.1.mp hx) (by simp [FramerState.isAligned])

/-- A framer enters ALIGNED with its store primed (R21). -/
theorem Fit.enters {f : FramerState} {x : Store} {on : Bool} (h : Fit f x on) (hf : f.Searching) (a : Alignment)
    (o : Octet) : Fit (.aligned a) { x.prime with inProgress := [alignWord, o] } on := by
  obtain ⟨sound, -, off⟩ := h
  refine ⟨⟨by simp [Store.prime], sound.2.1, by simp, rfl⟩, iff_of_false nofun nofun, ?_⟩
  rw [← off]
  exact iff_of_false nofun hf.2

/-! ### Soundness of every store from one trunk's -/

theorem StoresSound.onTrunk {s t : State} {n : Trunk} (h : StoresSound s) (on : OnTrunk n s t)
    (fit : Fit (t.framers[n]).state t.stores[n] (s.cfg.trunks[n]).enabled) : StoresSound t := by
  intro m
  change Fit (t.framers[m]).state t.stores[m] (t.cfg.trunks[m]).enabled
  rw [on.cfg]
  by_cases hm : m = n
  · rw [hm]
    exact fit
  · rw [on.framers m hm, on.stores m hm]
    exact h m

/-- What touches no framer, store or setting keeps every store sound. -/
theorem StoresSound.same {s t : State} (h : StoresSound s) (framers : t.framers = s.framers)
    (stores : t.stores = s.stores) (cfg : t.cfg = s.cfg) : StoresSound t := by
  unfold StoresSound
  rw [framers, stores, cfg]
  exact h

theorem StoresSound.grades {s t : State} (h : StoresSound s) (g : Grades s t) : StoresSound t :=
  h.same g.framers g.stores g.cfg

theorem StoresSound.setFramer {s : State} {n : Trunk} {f : Framer} (h : StoresSound s)
    (fit : Fit f.state s.stores[n] (s.cfg.trunks[n]).enabled) : StoresSound (s.setFramer n f) :=
  h.onTrunk (setFramer_onTrunk ..) (by rw [setFramer_same]; exact fit)

theorem StoresSound.setStore {s : State} {n : Trunk} {x : Store} (h : StoresSound s)
    (fit : Fit (s.framers[n]).state x (s.cfg.trunks[n]).enabled) : StoresSound (s.setStore n x) :=
  h.onTrunk (setStore_onTrunk ..) (by rw [setStore_same]; exact fit)

/-! ### Octets -/

theorem leaveAligned_sound {n : Trunk} {new : FramerState} {before : Option Nat} {a : Alignment} {s : State}
    (h : StoresSound s) (ha : (s.framers[n]).state = .aligned a) (hn : new.Searching) :
    StoresSound (leaveAligned n new before s) := by
  refine h.onTrunk (leaveAligned_onTrunk ..) ?_
  rw [leaveAligned_framer, leaveAligned_store]
  have fit := h n
  rw [ha] at fit
  exact Fit.leaves fit hn

/-- A record that arrives leaves the store sound and in its state (R23 to R25). -/
theorem storeArrival_store_sound (n : Trunk) (r : FrameRecord) (s : State) (h : (s.stores[n]).sound) :
    (storeArrival n r s).stores[n].sound ∧ (storeArrival n r s).stores[n].state = s.stores[n].state := by
  have held (busy : s.stores[n].state ≠ .idle) :
      ({ s.stores[n] with queue := pushBounded 4 s.stores[n].queue r } : Store).sound :=
    h.hold busy _ _ (pushBounded_length 4 _ r h.1 (by omega)) h.2.2.1
  unfold storeArrival
  dsimp only
  split
  · exact ⟨h, rfl⟩
  · next hx =>
    rw [setStore_same]
    exact ⟨held (by rw [hx]; nofun), rfl⟩
  · next hx =>
    split
    · rw [setStore_same]
      exact ⟨held (by rw [hx]; nofun), rfl⟩
    · rw [slip_store, setStore_same]
      exact ⟨(held (by rw [hx]; nofun)).slipped .., slipped_state ..⟩

theorem completeFrame_sound {n : Trunk} {a : Alignment} {octets : List Octet} {before : Nat} {s : State}
    (h : StoresSound s) (ha : (s.framers[n]).state = .aligned a) : StoresSound (completeFrame n a octets before s) := by
  have fit := h n
  rw [ha] at fit
  unfold completeFrame
  dsimp only
  have fit0 : Fit (.aligned a) { s.stores[n] with inProgress := [] } (s.cfg.trunks[n]).enabled :=
    Fit.stays fit (Store.sound.hold fit.1 (Fit.busy fit) _ _ fit.1.1 (by simp)) rfl
  generalize frameRecord octets a.expected a.errored s.framers[n].frameStamp = r
  have on1 : OnTrunk n s (storeArrival n r (s.setStore n { s.stores[n] with inProgress := [] })) :=
    (setStore_onTrunk ..).trans (storeArrival_onTrunk ..)
  have arrived := storeArrival_store_sound n r (s.setStore n { s.stores[n] with inProgress := [] })
    (by rw [setStore_same]; exact fit0.1)
  rw [setStore_same] at arrived
  generalize storeArrival n r (s.setStore n { s.stores[n] with inProgress := [] }) = s1 at on1 arrived ⊢
  have sound2 : StoresSound (recomputeQl (s1.setFramer n (s1.framers[n].completed a octets))) := by
    refine StoresSound.grades ?_ (recomputeQl_steers _).grades
    refine h.onTrunk (on1.trans (setFramer_onTrunk ..)) ?_
    rw [setFramer_same]
    exact Fit.stays fit0 arrived.1 arrived.2
  split
  · exact leaveAligned_sound sound2 (a := a.completed) (by rw [recomputeQl_framers, setFramer_same]; rfl)
      (searching_hunt _)
  · exact sound2.grades (raiseAlarmFrom_reports ..).grades

theorem joinFrame_sound {n : Trunk} {o : Octet} {a : Alignment} {s : State} (h : StoresSound s)
    (ha : (s.framers[n]).state = .aligned a) (short : (s.stores[n]).inProgress.length < 35) :
    StoresSound (joinFrame n o s) := by
  have fit := h n
  rw [ha] at fit
  refine h.setStore ?_
  rw [ha]
  exact Fit.stays fit (Store.sound.hold fit.1 (Fit.busy fit) _ _ fit.1.1 (by simp; omega)) rfl

theorem alignedOctet_sound {n : Trunk} {a : Alignment} {o : Octet} {before : Nat} {s : State} (h : StoresSound s)
    (ha : (s.framers[n]).state = .aligned a) : StoresSound (alignedOctet n a o before s) := by
  have moved : ∀ (b : Alignment) (f : Framer), f.state = .aligned b → StoresSound (s.setFramer n f) := by
    intro b f hf
    refine h.setFramer ?_
    have fit := h n
    rw [ha] at fit
    rw [hf]
    exact Fit.stays fit fit.1 rfl
  unfold alignedOctet
  dsimp only
  split
  · next got =>
    refine joinFrame_sound (a := { a with expected := a.expected + 1 }) (moved _ _ rfl) (by rw [setFramer_same]) ?_
    rw [State.setFramer_stores, got]
    decide
  · next first got =>
    refine StoresSound.grades ?_ (raiseMarker_grades ..)
    refine joinFrame_sound (a := a.decide first o) (moved _ _ rfl) (by rw [setFramer_same]) ?_
    rw [State.setFramer_stores, got]
    simp
  · split
    · next short => exact joinFrame_sound h ha short
    · exact completeFrame_sound h ha

theorem enterAligned_sound {n : Trunk} {f : Fin 16} {o : Octet} {s : State} (h : StoresSound s)
    (hs : (s.framers[n]).state.Searching) : StoresSound (enterAligned n f o s) := by
  unfold enterAligned
  dsimp only
  refine StoresSound.grades ?_ (raiseMarker_grades ..)
  refine h.onTrunk ((setFramer_onTrunk ..).trans ((raise_onTrunk ..).trans (setStore_onTrunk ..))) ?_
  have entered := Fit.enters (h n) hs { expected := f + 2, errored := false, erroredRun := 0 } o
  rw [setStore_same, State.setStore_framers, raiseTrunkState_framers, setFramer_same, raiseTrunkState_stores]
  exact entered

theorem confirmOctet_sound {n : Trunk} {f : Fin 16} {kept : List Octet} {o : Octet} {s : State} (h : StoresSound s)
    (hs : (s.framers[n]).state.Searching) : StoresSound (confirmOctet n f kept o s) := by
  unfold confirmOctet
  dsimp only
  split
  · split
    · exact h.setFramer (Fit.searches (h n) hs (searching_confirm ..))
    · exact enterAligned_sound h hs
  · exact h.setFramer (Fit.searches (h n) hs (rescan_searching _))

theorem handleOctet_sound {n : Trunk} {o : Octet} {before : Nat} {s : State} (h : StoresSound s) :
    StoresSound (handleOctet n o before s) := by
  unfold handleOctet
  dsimp only
  split
  · exact h
  · next hs =>
    exact (h.setFramer (Fit.searches (h n) (hs ▸ searching_noSignal) (searching_hunt _))).grades
      (raise_reports ..).grades
  · next w hs => exact h.setFramer (Fit.searches (h n) (hs ▸ searching_hunt w) (huntOctet_searching ..))
  · next f kept hs => exact confirmOctet_sound h (hs ▸ searching_confirm f kept)
  · next a hs => exact alignedOctet_sound h hs

theorem octetArrival_sound (n : Trunk) (o : Octet) (s : State) (h : StoresSound s) :
    StoresSound (octetArrival n o s) := by
  have arrived : StoresSound (s.setFramer n (s.framers[n].arrive s.gen.tick o)) := h.setFramer (h n)
  unfold octetArrival
  dsimp only
  split
  · exact h
  · split
    · exact handleOctet_sound arrived
    · exact handleOctet_sound (arrived.grades (raiseAlarmFrom_reports ..).grades)

/-! ### Loss of signal, restart, recentering, window ends -/

theorem expireSignal_sound (n : Trunk) (s : State) (h : StoresSound s) : StoresSound (expireSignal n s) := by
  have lost : ∀ f : Framer, f.state = (s.framers[n]).state → StoresSound (s.setFramer n f) := fun f hf =>
    h.setFramer (by rw [hf]; exact h n)
  have gone : ∀ (f : Framer) (old : FramerState) (before : Nat), (s.framers[n]).state.Searching → f.state = .noSignal →
      StoresSound (raiseAlarmFrom n before (raiseTrunkState n old .noSignal (s.setFramer n f))) := by
    intro f old before hs hf
    refine StoresSound.grades (h.setFramer ?_) ((raise_reports ..).grades.trans (raiseAlarmFrom_reports ..).grades)
    rw [hf]
    exact Fit.searches (h n) hs searching_noSignal
  unfold expireSignal
  split
  · dsimp only
    split
    · exact h
    · refine StoresSound.grades (lost _ ?_) (raiseAlarmFrom_reports ..).grades
      rfl
    · next w hs =>
      rw [setFramer_setFramer]
      exact gone _ _ _ (hs ▸ searching_hunt w) rfl
    · next f kept hs =>
      rw [setFramer_setFramer]
      exact gone _ _ _ (hs ▸ searching_confirm f kept) rfl
    · next a hs => exact leaveAligned_sound (a := a) (lost _ rfl) (by rw [setFramer_same]; exact hs) searching_noSignal
  · exact h

theorem restartTrunk_sound (n : Trunk) (s : State) (h : StoresSound s) : StoresSound (restartTrunk n s) := by
  unfold restartTrunk
  dsimp only
  split
  · exact h
  · exact h
  · next w hs => exact h.setFramer (Fit.searches (h n) (hs ▸ searching_hunt w) (searching_hunt _))
  · next f kept hs => exact h.setFramer (Fit.searches (h n) (hs ▸ searching_confirm f kept) (searching_hunt _))
  · next a hs => exact leaveAligned_sound h hs (searching_hunt _)

/-- A store whose soundness and whose being IDLE are as before fits its framer as before. -/
theorem StoresSound.setStore_like {s : State} {n : Trunk} {x : Store} (h : StoresSound s)
    (sound : (s.stores[n]).sound → x.sound) (idle : x.state = .idle ↔ (s.stores[n]).state = .idle) :
    StoresSound (s.setStore n x) := by
  obtain ⟨hx, hi, ho⟩ := h n
  exact h.setStore ⟨sound hx, idle.trans hi, ho⟩

theorem recenter_sound (n : Trunk) (note : SlipRecord) (s : State) (h : StoresSound s)
    (run : (s.stores[n]).state = .run) : StoresSound (s.setStore n (s.stores[n].recenter note)) := by
  refine h.setStore_like (fun sound => ?_) (by rw [run]; exact iff_of_false nofun nofun)
  exact ⟨by simp [Store.recenter], pushBounded_length 4 _ note sound.2.1 (by omega), sound.2.2.1, rfl⟩

theorem endStoreWindow_sound (n : Trunk) (e : Epoch) (s : State) (h : StoresSound s) :
    StoresSound (endStoreWindow n e s) := by
  unfold endStoreWindow
  dsimp only
  split
  · have ended := h.setStore_like (n := n)
      (x := { s.stores[n].endWindow s.cfg.trunks[n].threshold with windowFrom := e }) id Iff.rfl
    split
    · exact ended.grades (raise_reports ..).grades
    · exact ended
  · exact h.setStore_like id Iff.rfl

/-! ### Reads -/

theorem deliverFresh_sound (x : Store) (r : FrameRecord) (now : Tick) (h : x.sound) : (x.deliverFresh r now).sound :=
  ⟨by simp [Store.deliverFresh]; have := h.1; omega, h.2.1, h.2.2.1, rfl⟩

/-- A store in IDLE delivers no fresh frame (R26). -/
theorem idle_of_delivers_fresh {x : Store} {r : FrameRecord} (h : x.delivers = .fresh r) : x.state ≠ .idle := by
  intro hx
  simp [Store.delivers, hx] at h

theorem readStore_sound (n : Trunk) (s : State) (h : StoresSound s) : StoresSound (readStore n s) := by
  unfold readStore
  dsimp only
  refine StoresSound.same (s := match s.stores[n].delivers with
    | .fresh r => s.setStore n (s.stores[n].deliverFresh r s.gen.tick)
    | .repeated _ => slip n .repeated 0 s
    | .idle => s) ?_ rfl rfl rfl
  split
  · next r hr =>
    exact h.setStore_like (deliverFresh_sound _ r _) (iff_of_false nofun (idle_of_delivers_fresh hr))
  · refine h.onTrunk (slip_onTrunk ..) ?_
    rw [slip_store, slip_framers]
    obtain ⟨hx, hi, ho⟩ := h n
    exact ⟨hx.slipped .., by rw [slipped_state]; exact hi, ho⟩
  · exact h

end Sys2Proof.Machine
end

section
/-! SUPPORT. The trunks and the candidates of an apply, taken one by one in some order (R2, R48, R80, R81). -/

namespace Sys2Proof.Machine

/-! ### Folds in which one member alone acts on a part of the state -/

/-- Members that are each related to what they leave are together. -/
theorem foldl_related {α β : Type} (r : β → β → Prop) (refl : ∀ b, r b b) (trans : ∀ {a b c}, r a b → r b c → r a c)
    (f : β → α → β) (xs : List α) (step : ∀ x ∈ xs, ∀ b, r b (f b x)) (b : β) : r b (xs.foldl f b) := by
  induction xs generalizing b with
  | nil => exact refl b
  | cons x xs ih =>
    exact trans (step x (List.mem_cons_self ..) b) (ih (fun y hy => step y (List.mem_cons_of_mem _ hy)) _)

/-- Of a part that every member but `a` leaves alone, a fold leaves what `a` leaves of it. -/
theorem foldl_at {α β : Type} (r : β → β → Prop) (refl : ∀ b, r b b) (trans : ∀ {a b c}, r a b → r b c → r a c)
    (f : β → α → β) (a : α) (xs : List α) (nodup : xs.Nodup) (mem : a ∈ xs)
    (others : ∀ x ∈ xs, x ≠ a → ∀ b, r b (f b x)) (b : β) : ∃ c, r b c ∧ r (f c a) (xs.foldl f b) := by
  obtain ⟨before, later, rfl⟩ := List.append_of_mem mem
  have notBefore : a ∉ before := fun h => (List.disjoint_of_nodup_append nodup) h (List.mem_cons_self ..)
  have notLater : a ∉ later := (List.nodup_cons.mp (List.nodup_append.mp nodup).2.1).1
  refine ⟨before.foldl f b, foldl_related r refl trans f before (fun x hx => ?_) b, ?_⟩
  · exact others x (List.mem_append_left _ hx) fun h => notBefore (h ▸ hx)
  · rw [List.foldl_append, List.foldl_cons]
    refine foldl_related r refl trans f later (fun x hx => ?_) _
    exact others x (List.mem_append_right _ (List.mem_cons_of_mem _ hx)) fun h => notLater (h ▸ hx)

/-! ### The units of an apply -/

theorem applyUnits_nodup : applyUnits.Nodup := by
  unfold applyUnits
  refine List.nodup_append.mpr ⟨?_, ?_, ?_⟩
  · exact (List.nodup_finRange 48).map fun a b h => by injection h
  · exact (List.nodup_finRange 8).map fun a b h => by injection h
  · intro a ha b hb
    obtain ⟨t, -, rfl⟩ := List.mem_map.mp ha
    obtain ⟨c, -, rfl⟩ := List.mem_map.mp hb
    exact nofun

theorem mem_applyUnits (u : ApplyUnit) : u ∈ applyUnits := by
  unfold applyUnits
  cases u <;> simp

/-- Every unit is taken once in an order of an apply. -/
theorem orderedUnits_nodup {us : List ApplyUnit} (h : us.Perm applyUnits) : us.Nodup := h.nodup_iff.mpr applyUnits_nodup

theorem mem_orderedUnits {us : List ApplyUnit} (h : us.Perm applyUnits) (u : ApplyUnit) : u ∈ us :=
  h.mem_iff.mpr (mem_applyUnits u)

/-! ### Enabling and disabling a trunk -/

theorem enableTrunk_onTrunk (n : Trunk) (w : Bool) (s : State) : OnTrunk n s (enableTrunk n w s) :=
  (setFramer_onTrunk ..).trans ((setStore_onTrunk ..).trans (raise_onTrunk ..))

theorem enableTrunk_framer (n : Trunk) (w : Bool) (s : State) :
    (enableTrunk n w s).framers[n]
      = { Framer.reset with state := .noSignal, losFrom := some s.gen.tick, alignErrors := s.framers[n].alignErrors } :=
  setFramer_same ..

theorem enableTrunk_store (n : Trunk) (w : Bool) (s : State) :
    (enableTrunk n w s).stores[n] = { s.stores[n] with windowComplete := w } := setStore_same ..

/-- The framer's own part of a disable: leaving alignment, or TRUNK-STATE alone (R2). -/
theorem disableTrunk_left (n : Trunk) (s : State) :
    OnTrunk n s (if s.framers[n].state.isAligned then leaveAligned n .off none s
      else raiseTrunkState n s.framers[n].state .off s) := by
  split
  · exact leaveAligned_onTrunk ..
  · exact raise_onTrunk ..

theorem disableTrunk_onTrunk (n : Trunk) (s : State) : OnTrunk n s (disableTrunk n s) := by
  have first := disableTrunk_left n s
  unfold disableTrunk
  dsimp only
  generalize (if s.framers[n].state.isAligned then leaveAligned n .off none s
      else raiseTrunkState n s.framers[n].state .off s) = u at first ⊢
  have cleared := first.trans (setFramer_onTrunk n { Framer.reset with alignErrors := u.framers[n].alignErrors } u)
  generalize u.setFramer n _ = v at cleared ⊢
  have told := cleared.trans (raiseAlarmFrom_onTrunk n s.framers[n].alarms v)
  generalize raiseAlarmFrom n s.framers[n].alarms v = w at told ⊢
  split
  · exact told.trans ((setStore_onTrunk ..).trans (raise_onTrunk ..))
  · exact told.trans (setStore_onTrunk ..)

theorem disableTrunk_left_alignErrors (n : Trunk) (s : State) :
    (if s.framers[n].state.isAligned then leaveAligned n .off none s
      else raiseTrunkState n s.framers[n].state .off s).framers[n].alignErrors = s.framers[n].alignErrors := by
  split
  · rw [leaveAligned_framer]
    rfl
  · rfl

/-- A disabled framer is as after a power-on reset but for its alignment error count (R2). -/
theorem disableTrunk_framer (n : Trunk) (s : State) :
    (disableTrunk n s).framers[n] = { Framer.reset with alignErrors := s.framers[n].alignErrors } := by
  have errors := disableTrunk_left_alignErrors n s
  unfold disableTrunk
  dsimp only
  generalize (if s.framers[n].state.isAligned then leaveAligned n .off none s
      else raiseTrunkState n s.framers[n].state .off s) = u at errors ⊢
  have told : (raiseAlarmFrom n s.framers[n].alarms
      (u.setFramer n { Framer.reset with alignErrors := u.framers[n].alignErrors })).framers[n]
        = { Framer.reset with alignErrors := s.framers[n].alignErrors } := by
    rw [raiseAlarmFrom_framers, setFramer_same, errors]
  split
  · exact told
  · exact told

/-- The store of a disabled trunk: flushed where the framer was ALIGNED, then cleared (R48). -/
theorem disableTrunk_store (n : Trunk) (s : State) :
    (disableTrunk n s).stores[n]
      = (if s.framers[n].state.isAligned then s.stores[n].flush else s.stores[n]).disabled := by
  have store : (if s.framers[n].state.isAligned then leaveAligned n .off none s
      else raiseTrunkState n s.framers[n].state .off s).stores[n]
        = if s.framers[n].state.isAligned then s.stores[n].flush else s.stores[n] := by
    split
    · exact leaveAligned_store ..
    · rfl
  unfold disableTrunk
  dsimp only
  generalize (if s.framers[n].state.isAligned then leaveAligned n .off none s
      else raiseTrunkState n s.framers[n].state .off s) = u at store ⊢
  have cleared : ∀ f a, ((raiseAlarmFrom n a (u.setFramer n f)).setStore n
      (raiseAlarmFrom n a (u.setFramer n f)).stores[n].disabled).stores[n] = u.stores[n].disabled := by
    intro f a
    rw [setStore_same, raiseAlarmFrom_stores, State.setFramer_stores]
  rw [← store]
  split
  · exact cleared ..
  · exact cleared ..

theorem applyTrunk_onTrunk (old : Settings) (n : Trunk) (s : State) : OnTrunk n s (applyTrunk old n s) := by
  unfold applyTrunk
  split
  · exact OnTrunk.refl n s
  · split
    · exact enableTrunk_onTrunk ..
    · exact disableTrunk_onTrunk ..

/-- A trunk whose framer and store fit the old enable fits the new one after its unit (R2, R48). -/
theorem applyTrunk_fit (old : Settings) (n : Trunk) (s : State)
    (h : Fit (s.framers[n]).state s.stores[n] (old.trunks[n]).enabled) :
    Fit ((applyTrunk old n s).framers[n]).state (applyTrunk old n s).stores[n] (s.cfg.trunks[n]).enabled := by
  obtain ⟨sound, idle, off⟩ := h
  unfold applyTrunk
  split
  · next same => exact ⟨sound, idle, off.trans (by rw [same])⟩
  · next changed =>
    split
    · next on =>
      have wasOff : (s.framers[n]).state = .off := off.mpr (by rw [on] at changed; simpa using changed)
      rw [enableTrunk_framer, enableTrunk_store, on]
      have isIdle := idle.mpr (by rw [wasOff]; rfl)
      exact ⟨sound, iff_of_true isIdle rfl, iff_of_false nofun nofun⟩
    · next nowOff =>
      have nowFalse : (s.cfg.trunks[n]).enabled = false := by simpa using nowOff
      rw [disableTrunk_framer, disableTrunk_store, nowFalse]
      have flushed : (if s.framers[n].state.isAligned then s.stores[n].flush else s.stores[n]).sound
          ∧ (if s.framers[n].state.isAligned then s.stores[n].flush else s.stores[n]).state = .idle := by
        split
        · exact ⟨sound.flush, rfl⟩
        · next notAligned => exact ⟨sound, idle.mpr (by simpa using notAligned)⟩
      obtain ⟨⟨hq, -, hp, hs⟩, isIdle⟩ := flushed
      exact ⟨⟨hq, by simp [Store.disabled], hp, hs⟩, iff_of_true isIdle rfl, iff_of_true rfl rfl⟩

/-! ### One trunk through the units of an apply -/

/-- The framer and the store of trunk n, the settings and the generator are as they were. -/
structure TrunkStands (n : Trunk) (s t : State) : Prop where
  framer : t.framers[n] = s.framers[n]
  store : t.stores[n] = s.stores[n]
  cfg : t.cfg = s.cfg
  gen : t.gen = s.gen

theorem TrunkStands.refl (n : Trunk) (s : State) : TrunkStands n s s := ⟨rfl, rfl, rfl, rfl⟩

theorem TrunkStands.trans {n : Trunk} {s t u : State} (h : TrunkStands n s t) (g : TrunkStands n t u) :
    TrunkStands n s u :=
  ⟨g.framer.trans h.framer, g.store.trans h.store, g.cfg.trans h.cfg, g.gen.trans h.gen⟩

theorem OnTrunk.stands {n m : Trunk} {s t : State} (h : OnTrunk m s t) (other : n ≠ m) : TrunkStands n s t :=
  ⟨h.framers n other, h.stores n other, h.cfg, h.gen⟩

theorem Grades.stands {s t : State} (h : Grades s t) (n : Trunk) : TrunkStands n s t :=
  ⟨by rw [h.framers], by rw [h.stores], h.cfg, h.gen⟩

theorem applyUnit_trunkStands (old : Settings) (n : Trunk) (u : ApplyUnit) (other : u ≠ .trunk n) (s : State) :
    TrunkStands n s (u.take old s) := by
  cases u with
  | trunk m => exact (applyTrunk_onTrunk old m s).stands fun h => other (by rw [h])
  | candidate c => exact (resetCandidate_grades ..).stands n

/-- What the units leave of trunk n is what its own unit leaves of it as it stood before the first. -/
theorem applyUnits_trunk (old : Settings) (n : Trunk) {us : List ApplyUnit} (h : us.Perm applyUnits) (s : State) :
    ∃ v, TrunkStands n s v ∧ TrunkStands n (applyTrunk old n v) (us.foldl (fun s u => u.take old s) s) :=
  foldl_at (TrunkStands n) (TrunkStands.refl n) TrunkStands.trans (fun s (u : ApplyUnit) => u.take old s) (.trunk n) us
    (orderedUnits_nodup h) (mem_orderedUnits h _) (fun u _ hu s => applyUnit_trunkStands old n u hu s) s

/-- An apply's units leave every store sound under the new settings (R2, R48). -/
theorem applyUnder_sound (ord : Nat) (old : Settings) (s : State)
    (h : ∀ t : Trunk, Fit (s.framers[t]).state s.stores[t] (old.trunks[t]).enabled) :
    StoresSound (applyUnder ord old s) := by
  intro n
  obtain ⟨v, before, later⟩ := applyUnits_trunk old n (inOrder_perm ord applyUnits)
    { s with cfg := s.cfg.withPolicy old }
  have fit := applyTrunk_fit old n v (by rw [before.framer, before.store]; exact h n)
  rw [← later.framer, ← later.store, before.cfg] at fit
  exact fit

end Sys2Proof.Machine
end

section
/-! SUPPORT. What every action of the part keeps, every step keeps: the induction over the commands, once. -/

namespace Sys2Proof.Machine

/-- Every action a command is made of keeps P, and so does the passing of a tick. -/
structure ActionsKeep (P : State → Prop) : Prop where
  link : ∀ s l k, P s → P (s.setLink l k)
  commit : ∀ s x, P s → P { s with commit := x }
  cause : ∀ s x, P s → P { s with cause := x }
  queue : ∀ s is n, P s → P { s with pending := is, free := n }
  held : ∀ s, P s → P { s with pinHeld := true }
  release : ∀ s cause, P s → P (releasePart cause s)
  tick : ∀ s, P s → P (oneTick s)
  octet : ∀ s t o, P s → P (octetArrival t o s)
  signal : ∀ s t, P s → P (expireSignal t s)
  frame : ∀ s ord, P s → P (startFrame ord s)
  windowEnd : ∀ s c, P s → P (endWindow c s)
  wait : ∀ s c, P s → P (endWait c s)
  timeout : ∀ s, P s → P (acquireTimeoutStep s)
  slipWindow : ∀ s t, P s → P (endSlipWindow t s)
  edge : ∀ s i, P s → P (stationEdge i s)
  activity : ∀ s c, P s → P (expireActivity c s)
  apply : ∀ s ord, P s → P (applyCommit ord s)
  switch : ∀ s l action operand option, P s → P (switchAction l action operand option s).2
  restart : ∀ s t, P s → P (restartTrunk t s)
  recenter : ∀ s t note, P s → s.stores[t].state = .run → P (s.setStore t (s.stores[t].recenter note))
  counters : ∀ s l, P s → P (raise .countersCleared (.link l) 0 (clearCounters s))
  read : ∀ s l it, P s → P (afterRead l it s)
  resetLink : ∀ s l, P s → P (restartLink l s)
  resetPart : ∀ s l, P s → P (warmReset l s)

namespace ActionsKeep

variable {P : State → Prop} (h : ActionsKeep P)
include h

/-! ### Links -/

theorem answer (l : LinkId) (q : Request) (status : Status) (body : List Octet) (s : State) (hs : P s) :
    P (answer l q status body s) := h.link _ _ _ hs

theorem answerAside (l : LinkId) (q : Request) (status : Status) (s : State) (hs : P s) :
    P (answerAside l q status s) := by
  unfold Machine.answerAside
  split
  · exact h.link _ _ _ hs
  · exact hs

theorem completeCapture (l : LinkId) (s : State) (hs : P s) : P (completeCapture l s) := by
  unfold Machine.completeCapture
  split
  · exact hs
  · exact h.link _ _ _ (h.link _ _ _ hs)

theorem runOn (s : State) (hs : P s) : P (runOn s) :=
  h.completeCapture _ _ (h.completeCapture _ _ (foldl_keeps P _ _ s hs fun t c ht => h.windowEnd t c ht))

theorem handleRead (l : LinkId) (q : Request) (code i1 i2 selector : Octet) (s : State) (hs : P s) :
    P (handleRead l q code i1 i2 selector s) := by
  unfold Machine.handleRead
  split
  · split
    · exact h.answer _ _ _ _ _ hs
    · split <;> exact h.answer _ _ _ _ _ hs
  · split
    · exact h.answer _ _ _ _ _ (h.read _ _ _ hs)
    · split <;> exact h.answer _ _ _ _ _ hs
  · exact h.answer _ _ _ _ _ hs

theorem handleStage (l : LinkId) (q : Request) (code i1 i2 : Octet) (value : List Octet) (s : State) (hs : P s) :
    P (handleStage l q code i1 i2 value s) := by
  unfold Machine.handleStage
  split
  · exact h.answer _ _ _ _ _ hs
  · split
    · exact h.answer _ _ _ _ _ hs
    · split
      · exact h.answer _ _ _ _ _ hs
      · exact h.answer _ _ _ _ _ (h.link _ _ _ hs)

theorem handleCommit (l : LinkId) (q : Request) (expected : Word16) (s : State) (hs : P s) :
    P (handleCommit l q expected s) := by
  unfold Machine.handleCommit
  split
  · exact h.answer _ _ _ _ _ hs
  · exact h.link _ _ _ (h.commit _ _ hs)

theorem handleTrunk (l : LinkId) (q : Request) (action trunk : Octet) (s : State) (hs : P s) :
    P (handleTrunk l q action trunk s) := by
  unfold Machine.handleTrunk
  split
  · exact h.answer _ _ _ _ _ hs
  · split
    · unfold handleRestart
      split
      · exact h.answer _ _ _ _ _ (h.restart _ _ hs)
      · exact h.answer _ _ _ _ _ hs
    · split
      · unfold handleRecenter
        dsimp only
        split
        · next run => exact h.answer _ _ _ _ _ (h.recenter _ _ _ hs run)
        · exact h.answer _ _ _ _ _ hs
        · exact h.answer _ _ _ _ _ hs
      · exact h.answer _ _ _ _ _ hs

theorem handleEvents (l : LinkId) (q : Request) (count : Octet) (s : State) (hs : P s) :
    P (handleEvents l q count s) := by
  unfold Machine.handleEvents
  dsimp only
  split
  · exact h.link _ _ _ (h.answer _ _ _ _ _ (h.link _ _ _ hs))
  · exact h.answer _ _ _ _ _ hs

theorem handleClear (l : LinkId) (q : Request) (option : Octet) (s : State) (hs : P s) :
    P (handleClear l q option s) := by
  unfold Machine.handleClear
  split
  · exact h.answer _ _ _ _ _ (h.counters _ _ hs)
  · split
    · exact h.answer _ _ _ _ _ (h.cause _ _ hs)
    · exact h.answer _ _ _ _ _ hs

theorem handleMask (l : LinkId) (q : Request) (m : Octet) (s : State) (hs : P s) : P (handleMask l q m s) := by
  unfold Machine.handleMask
  split
  · exact h.answer _ _ _ _ _ hs
  · exact h.answer _ _ _ _ _ (h.link _ _ _ hs)

theorem handleCapture (l : LinkId) (q : Request) (trunk : Octet) (s : State) (hs : P s) :
    P (handleCapture l q trunk s) := by
  unfold Machine.handleCapture
  split
  · exact h.answer _ _ _ _ _ hs
  · exact h.link _ _ _ hs

theorem handleReset (l : LinkId) (q : Request) (no : Status → State → State) (hno : ∀ why s, P s → P (no why s))
    (s : State) (hs : P s) : P (handleReset l q no s) := by
  unfold Machine.handleReset
  split
  · split
    · exact h.answer _ _ _ _ _ (h.resetLink _ _ hs)
    · split
      · exact h.answer _ _ _ _ _ (h.resetPart _ _ hs)
      · exact hno _ _ hs
  · exact hno _ _ hs

/-- The kinds with one body octet (R155). -/
theorem handleOne (l : LinkId) (q : Request) (s : State) (hs : P s) : P (handleOne l q s) := by
  unfold Machine.handleOne
  split
  · split
    · exact h.handleCapture _ _ _ _ hs
    split
    · exact h.handleEvents _ _ _ _ hs
    split
    · exact h.handleClear _ _ _ _ hs
    · exact h.handleMask _ _ _ _ hs
  · exact h.answer _ _ _ _ _ hs

theorem handleKind (l : LinkId) (q : Request) (s : State) (hs : P s) : P (handleKind l q s) := by
  have wrong : P (wrongLength l q s) := h.answer _ _ _ _ _ hs
  unfold Machine.handleKind
  split
  · unfold handleBare
    split
    · split
      · exact h.answer _ _ _ _ _ hs
      · exact h.answer _ _ _ _ _ (h.link _ _ _ hs)
    · exact wrong
  split
  · unfold handleReadBody
    split
    · exact h.handleRead _ _ _ _ _ _ _ hs
    · exact wrong
  split
  · unfold handleStageBody
    split
    · exact h.handleStage _ _ _ _ _ _ _ hs
    · exact wrong
  split
  · unfold handleTwo
    split
    · split
      · exact h.handleCommit _ _ _ _ hs
      · exact h.handleTrunk _ _ _ _ _ hs
    · exact wrong
  split
  · unfold handleSwitchBody
    split
    · exact h.answer _ _ _ _ _ (h.switch _ _ _ _ _ hs)
    · exact wrong
  split
  · exact h.handleOne _ _ _ hs
  split
  · exact h.handleReset _ _ _ (fun why s hs => h.answer l q why [] s hs) _ hs
  · exact h.answer _ _ _ _ _ hs

/-- The taking of a request, in any state of its link (R151). -/
theorem takeRequest (l : LinkId) (q : Request) (s : State) (hs : P s) : P (takeRequest l q s) := by
  have aside : P (if q.rightCheck = q.check ∧ q.kind = 12 then Machine.handleReset l q (Machine.answerAside l q) s
      else Machine.answerAside l q .busy s) := by
    split
    · exact h.handleReset _ _ _ (fun why s hs => h.answerAside l q why s hs) _ hs
    · exact h.answerAside _ _ _ _ hs
  unfold Machine.takeRequest
  split
  · split
    · exact h.handleKind _ _ _ hs
    · exact h.answer _ _ _ _ _ hs
  · exact aside
  · exact aside

theorem takeOverlong (l : LinkId) (q : Request) (s : State) (hs : P s) : P (takeOverlong l q s) := by
  unfold Machine.takeOverlong
  split
  · exact h.answer _ _ _ _ _ hs
  · exact h.answerAside _ _ _ _ hs
  · exact h.answerAside _ _ _ _ hs

theorem requestOctet (l : LinkId) (o : Octet) (s : State) (hs : P s) : P (requestOctet l o s) := by
  have received : ∀ os timer, P (setReception l os timer s) := fun _ _ => h.link _ _ _ hs
  unfold Machine.requestOctet
  split
  · split
    · exact received ..
    · exact hs
  · unfold receive
    dsimp only
    split
    · exact h.takeOverlong _ _ _ (received ..)
    · split
      · exact h.takeRequest _ _ _ (received ..)
      · exact received ..

/-! ### Commands and steps -/

theorem taken {f : State → State} (hf : ∀ s, P s → P (f s)) {s t : State} (hs : P s) (e : taken f s = .next t) :
    P t := by
  unfold Machine.taken at e
  split at e
  · cases e; exact hs
  · cases e; exact hf _ (h.runOn _ hs)

omit h in
theorem takenAlone {f : State → State} (hf : ∀ s, P s → P (f s)) {s t : State} (hs : P s)
    (e : takenAlone f s = .next t) : P t := by
  unfold Machine.takenAlone at e
  split at e
  · cases e; exact hs
  · cases e; exact hf _ hs

theorem request {l : LinkId} {kind tag : Octet} {body : List Octet} {check : Word16} {s t : State} (hs : P s)
    (e : request l kind tag body check s = .next t) : P t := h.taken (h.takeRequest _ _) hs e

theorem frameStartStep (ord : Nat) (s : State) (hs : P s) : P (frameStartStep ord s) := by
  unfold Machine.frameStartStep
  split
  · exact h.frame _ _ hs
  · exact hs

theorem expireReception (l : LinkId) (s : State) (hs : P s) : P (expireReception l s) := by
  unfold Machine.expireReception
  split
  · exact h.link _ _ _ hs
  · exact hs

/-- Every command keeps P. -/
theorem exec (i : Instr) {s t : State} (hs : P s) (e : exec i s = .next t) : P t := by
  cases i with
  | trunkOctetArrival n o => exact h.taken (fun s => h.octet s n o) hs e
  | lossOfSignalExpiry n => exact h.taken (fun s => h.signal s n) hs e
  | exchangeFrameStart ord => exact h.taken (h.frameStartStep ord) hs e
  | captureCompletion l => exact ActionsKeep.takenAlone (h.completeCapture l) hs e
  | waitEnd c => exact h.taken (fun s => h.wait s c) hs e
  | acquireTimeout => exact h.taken h.timeout hs e
  | slipWindowEnd n => exact h.taken (fun s => h.slipWindow s n) hs e
  | stationInputEdge i => exact h.taken (fun s => h.edge s i) hs e
  | windowEnd c => exact ActionsKeep.takenAlone (fun s => h.windowEnd s c) hs e
  | activityTimerExpiry c => exact h.taken (fun s => h.activity s c) hs e
  | commitApply ord => exact h.taken (fun s => h.apply s ord) hs e
  | interOctetTimerExpiry l => exact h.taken (h.expireReception l) hs e
  | responseSent l => exact h.taken (f := fun u => u.setLink l (u.link l).sent) (fun u => h.link u l (u.link l).sent) hs e
  | pinResetAssert =>
    obtain rfl : { s with pinHeld := true } = t := Host.Outcome.next.inj e
    exact h.held _ hs
  | pinResetRelease =>
    obtain rfl : releasePart 0x02 s = t := Host.Outcome.next.inj e
    exact h.release _ _ hs
  | powerOnResetRelease =>
    obtain rfl : releasePart 0x01 s = t := Host.Outcome.next.inj e
    exact h.release _ _ hs
  | requestLineOctetArrival l o => exact h.taken (h.requestOctet l o) hs e
  | identify | read | stage | commit | discard | lockout | unlock | force | forceHoldover | manual | releaseForced
  | releaseManual | clearWait | restart | recenter | capture | events | clearCounters | clearResetCause | mask
  | resetLink | resetPart | badKindRequest => exact h.request hs e

theorem idle (s : State) (hs : P s) : P (idle s) := by
  unfold Machine.idle
  split
  · exact hs
  · split
    · exact h.tick _ hs
    · exact h.queue _ _ _ hs

/-- Every step keeps what every action keeps. -/
theorem step {s t : State} (hs : P s) (e : step s = .next t) : P t := by
  unfold Machine.step at e
  split at e
  · cases e; exact h.idle _ hs
  · exact h.exec _ (h.queue s _ s.free hs) e

end ActionsKeep

end Sys2Proof.Machine
end

section
/-! OBLIGATION. The stores stay within their limits and in step with their framers through every step. -/

namespace Sys2Proof.Machine

theorem stationEdge_sound (s : State) (i : Station) (h : StoresSound s) : StoresSound (stationEdge i s) := by
  unfold stationEdge
  dsimp only
  split
  · exact h
  · refine StoresSound.grades ?_ (raiseMarker_grades ..)
    exact h.same (State.setStation_framers ..) (State.setStation_stores ..) (State.setStation_cfg ..)

theorem expireActivity_grades (c : Cand) (s : State) : Grades s (expireActivity c s) := by
  unfold expireActivity
  split
  · exact goInactive_grades ..
  · exact Grades.refl s

theorem timeOutIfReached_steers (s : State) : Steers s (timeOutIfReached s) := by
  unfold timeOutIfReached
  split
  · split
    · exact timeOut_steers ..
    · exact Steers.refl s
  · exact Steers.refl s

theorem acquireTimeoutStep_grades (s : State) : Grades s (acquireTimeoutStep s) :=
  (timeOutIfReached_steers s).grades.trans (takeHandedTimeout_grades _)

theorem endSlipWindow_sound (s : State) (n : Trunk) (h : StoresSound s) : StoresSound (endSlipWindow n s) := by
  unfold endSlipWindow
  split
  · exact h
  · exact endStoreWindow_sound n _ { s with gen := { s.gen with epoch := _ } } h

/-! ### A frame start -/

theorem frameUnit_sound (u : FrameUnit) (s : State) (h : StoresSound s) : StoresSound (u.take s) := by
  cases u with
  | length => exact h.same rfl rfl rfl
  | frameQl => exact h.same rfl rfl rfl
  | classes => exact h.grades (classEvaluation_grades s)
  | waits => exact h.grades (countWaits_grades s)
  | timeout => exact h.grades (takeHandedTimeout_grades s)
  | sample => exact h.grades (phaseSample_grades s)
  | read n => exact readStore_sound n s h

theorem fixLanes_sound (p : Plane) (s : State) (h : StoresSound s) : StoresSound (fixLanes p s) := by
  cases p <;> (unfold fixLanes; exact h.same rfl rfl rfl)

theorem decideSquelch_sound (s : State) (h : StoresSound s) : StoresSound (decideSquelch s) := h.same rfl rfl rfl

theorem startFrame_sound (s : State) (ord : Nat) (h : StoresSound s) : StoresSound (startFrame ord s) := by
  have units : ∀ us : List FrameUnit, StoresSound (us.foldl (fun s u => u.take s) (advanceGenerator s)) := fun us =>
    foldl_keeps StoresSound _ us _ (h.same rfl rfl rfl) fun t u ht => frameUnit_sound u t ht
  unfold startFrame
  exact decideSquelch_sound _ (fixLanes_sound .b _ (fixLanes_sound .a _ (units _)))

/-! ### An apply -/

theorem applyLanes_sound (old : Settings) (p : Plane) (s : State) (h : StoresSound s) :
    StoresSound (applyLanes old p s) := by
  unfold applyLanes
  split
  · exact h
  · exact fixLanes_sound p s h

theorem applyBlocks_sound (ord : Nat) (old : Settings) (started : Bool) (l : LinkId) (s : State)
    (h : ∀ t : Trunk, Fit (s.framers[t]).state s.stores[t] (old.trunks[t]).enabled) :
    StoresSound (applyBlocks ord old started l s) := by
  have units := applyUnder_sound ord old s h
  unfold applyBlocks
  dsimp only
  refine StoresSound.grades ?_ ((applySynth_steers ..).grades.trans (applySelector_steers ..).grades)
  split
  · exact applyLanes_sound _ _ _ (applyLanes_sound _ _ _ units)
  · exact units

theorem setLink_sound (s : State) (l : LinkId) (k : Link) (h : StoresSound s) : StoresSound (s.setLink l k) :=
  h.same (State.setLink_framers ..) (State.setLink_stores ..) (State.setLink_cfg ..)

theorem finishCommit_sound (l : LinkId) (s : State) (h : StoresSound s) : StoresSound (finishCommit l s) := by
  have emptied : StoresSound { s.setLink l { s.link l with staging := [] } with commit := none, applied := true } :=
    (setLink_sound s l _ h).same rfl rfl rfl
  unfold finishCommit
  dsimp only
  split
  · exact setLink_sound _ _ _ emptied
  · exact emptied

/-- A store that fits its framer's old enable is sound under the new one once the apply is over (R2, R48). -/
theorem applyCommit_sound (s : State) (ord : Nat) (h : StoresSound s) : StoresSound (applyCommit ord s) := by
  unfold applyCommit
  split
  · exact h
  · next l _ =>
    refine finishCommit_sound l _ ?_
    exact applyBlocks_sound ord s.cfg _ l (installConfig l { s with gen := { s.gen with epoch := _ } }) h

/-! ### Resets and counters -/

theorem clearWander_sound (x : Store) (l : LinkId) (h : x.sound) : (x.clearWander l).sound := by cases l <;> exact h
@[simp] theorem clearWander_state (x : Store) (l : LinkId) : (x.clearWander l).state = x.state := by cases l <;> rfl

theorem afterRead_sound (s : State) (l : LinkId) (it : StatusItem) (h : StoresSound s) :
    StoresSound (afterRead l it s) := by
  cases it with
  | wander t => exact h.setStore_like (clearWander_sound _ l) (by rw [clearWander_state])
  | _ => exact h

theorem clearWanders_store (l : LinkId) (s : State) (t : Trunk) :
    (clearWanders l s).stores[t] = s.stores[t].clearWander l := by simp [clearWanders]

@[simp] theorem clearWanders_framers (l : LinkId) (s : State) : (clearWanders l s).framers = s.framers := by
  unfold clearWanders; rfl
@[simp] theorem clearWanders_cfg (l : LinkId) (s : State) : (clearWanders l s).cfg = s.cfg := by unfold clearWanders; rfl

theorem clearWanders_sound (l : LinkId) (s : State) (h : StoresSound s) : StoresSound (clearWanders l s) := by
  intro t
  obtain ⟨sound, idle, off⟩ := h t
  rw [clearWanders_store, clearWanders_framers, clearWanders_cfg, clearWander_state]
  exact ⟨clearWander_sound _ l sound, idle, off⟩

theorem restartLink_sound (s : State) (l : LinkId) (h : StoresSound s) : StoresSound (restartLink l s) := by
  unfold restartLink
  dsimp only
  exact setLink_sound _ l _ (clearWanders_sound l _ (h.same rfl rfl rfl))

theorem warmBlocks_sound (s : State) : StoresSound (warmBlocks s) := by
  intro t
  simp only [warmBlocks, recomputeQl, State.setSynth, Fin.getElem_fin, Vector.getElem_ofFn]
  cases s.cfg.trunks[t.val].enabled
  · exact ⟨by simp [Store.warm, Store.sound, Store.reset], iff_of_true rfl rfl, iff_of_true rfl rfl⟩
  · exact ⟨by simp [Store.warm, Store.sound, Store.reset], iff_of_true rfl rfl, iff_of_false nofun nofun⟩

theorem clearCounters_sound (s : State) (h : StoresSound s) : StoresSound (clearCounters s) := by
  intro t
  simp only [clearCounters, Fin.getElem_fin, Vector.getElem_ofFn]
  exact h t

theorem released_sound (cause : Octet) (s : State) : StoresSound (releasePart cause s) := by
  intro t
  simp only [releasePart, State.released, Settings.reset, Fin.getElem_fin, Vector.getElem_replicate]
  exact ⟨by simp [Store.sound, Store.reset], iff_of_true rfl rfl, by simp [Framer.reset]⟩

theorem warmReset_sound (l : LinkId) (s : State) : StoresSound (warmReset l s) := by
  have sound := restartLink_sound _ .b (restartLink_sound _ .a (warmBlocks_sound s))
  unfold warmReset
  generalize restartLink .b (restartLink .a (warmBlocks s)) = t at sound
  exact sound.same rfl rfl rfl

/-- Every action of the part keeps every store sound. -/
theorem storesSound_actions : ActionsKeep StoresSound where
  link := setLink_sound
  commit _ _ h := h.same rfl rfl rfl
  cause _ _ h := h.same rfl rfl rfl
  queue _ _ _ h := h.same rfl rfl rfl
  held _ h := h.same rfl rfl rfl
  release s cause _ := released_sound cause s
  tick _ h := h.same rfl rfl rfl
  octet s n o h := octetArrival_sound n o s h
  signal s n h := expireSignal_sound n s h
  frame := startFrame_sound
  windowEnd s c h := h.grades (endWindow_grades c s)
  wait s c h := h.grades (endWait_grades c s)
  timeout s h := h.grades (acquireTimeoutStep_grades s)
  slipWindow := endSlipWindow_sound
  edge := stationEdge_sound
  activity s c h := h.grades (expireActivity_grades c s)
  apply := applyCommit_sound
  switch s l action operand option h := h.grades (switchAction_grades l action operand option s)
  restart s n h := restartTrunk_sound n s h
  recenter s n note h run := recenter_sound n note s h run
  counters s _ h := (clearCounters_sound s h).grades (raise_reports ..).grades
  read := afterRead_sound
  resetLink := restartLink_sound
  resetPart s l _ := warmReset_sound l s

/-- Settles O59: every action keeps the stores sound, so every step does. -/
theorem stepsKeepTheStoresSound : Obligations.StepsKeepTheStoresSound := by
  unfold Obligations.StepsKeepTheStoresSound
  exact fun s t h e => storesSound_actions.step h e

end Sys2Proof.Machine
end

section
/-! SUPPORT. An octet's arrival on a trunk, in the words of the claims (R1 to R13). -/

namespace Sys2Proof.Machine

/-! ### Alarms and arrivals -/

theorem alarms_eq_alarmSet (f : Framer) : f.alarms = Claim.alarmSet f := rfl

theorem bump_eq_min (limit n : Nat) : bump limit n = min limit (n + 1) := by
  unfold bump
  split <;> omega

theorem arrive_eq_arrived (f : Framer) (now : Tick) (o : Octet) : f.arrive now o = Claim.arrived f now o := by
  have full : (min 72 (f.aisRun + 1) == 72) = decide (72 ≤ f.aisRun + 1) := by
    rw [Bool.eq_iff_iff]
    simp
  unfold Framer.arrive Claim.arrived
  by_cases ho : o = 0xFF
  · simp only [if_pos ho, bump_eq_min, full]
  · simp only [if_neg ho, decide_eq_false ho, Bool.false_and]

@[simp] theorem arrived_state (f : Framer) (now : Tick) (o : Octet) : (Claim.arrived f now o).state = f.state := rfl
@[simp] theorem arrived_rdi (f : Framer) (now : Tick) (o : Octet) : (Claim.arrived f now o).rdi = f.rdi := rfl
@[simp] theorem arrived_frameStamp (f : Framer) (now : Tick) (o : Octet) :
    (Claim.arrived f now o).frameStamp = f.frameStamp := rfl

/-- TRUNK-ALARM against an earlier framer's alarm set is the claims' alarm event. -/
theorem raiseAlarmFrom_eq (n : Trunk) (f F : Framer) (s : State) (h : s.framers[n] = F) :
    raiseAlarmFrom n f.alarms s = Claim.alarmEvent n f F s := by
  unfold raiseAlarmFrom Claim.alarmEvent
  rw [h]
  rfl

section alarmEvent
variable (n : Trunk) (f F : Framer) (s : State)

@[simp] theorem alarmEvent_framers : (Claim.alarmEvent n f F s).framers = s.framers := by
  unfold Claim.alarmEvent; split <;> rfl
@[simp] theorem alarmEvent_stores : (Claim.alarmEvent n f F s).stores = s.stores := by
  unfold Claim.alarmEvent; split <;> rfl
@[simp] theorem alarmEvent_gen : (Claim.alarmEvent n f F s).gen = s.gen := by
  unfold Claim.alarmEvent; split <;> rfl

@[simp] theorem alarmEvent_cands : (Claim.alarmEvent n f F s).cands = s.cands := by
  unfold Claim.alarmEvent; split <;> rfl
@[simp] theorem alarmEvent_sel : (Claim.alarmEvent n f F s).sel = s.sel := by
  unfold Claim.alarmEvent; split <;> rfl

/-- The alarm event does not ask what else is written. -/
@[simp] theorem alarmEvent_setFramer (m : Trunk) (x : Framer) :
    (Claim.alarmEvent n f F s).setFramer m x = Claim.alarmEvent n f F (s.setFramer m x) := by
  unfold Claim.alarmEvent; split <;> rfl
@[simp] theorem alarmEvent_setStore (m : Trunk) (x : Store) :
    (Claim.alarmEvent n f F s).setStore m x = Claim.alarmEvent n f F (s.setStore m x) := by
  unfold Claim.alarmEvent; split <;> rfl

/-- Only the alarm set of the framer counts. -/
theorem alarmEvent_congr (G : Framer) (h : Claim.alarmSet F = Claim.alarmSet G) :
    Claim.alarmEvent n f F s = Claim.alarmEvent n f G s := by
  unfold Claim.alarmEvent
  rw [h]

/-- No event where the alarm set stands. -/
theorem alarmEvent_same (h : Claim.alarmSet F = Claim.alarmSet f) : Claim.alarmEvent n f F s = s := if_pos h

end alarmEvent

theorem raise_setFramer (kind : EventKind) (subject : Subject) (detail : Word16) (n : Trunk) (x : Framer) (s : State) :
    (raise kind subject detail s).setFramer n x = raise kind subject detail (s.setFramer n x) := rfl
theorem raise_setStore (kind : EventKind) (subject : Subject) (detail : Word16) (n : Trunk) (x : Store) (s : State) :
    (raise kind subject detail s).setStore n x = raise kind subject detail (s.setStore n x) := rfl
theorem setStore_setFramer (n m : Trunk) (x : Store) (f : Framer) (s : State) :
    (s.setStore n x).setFramer m f = (s.setFramer m f).setStore n x := rfl

/-! ### The taking of an octet -/

theorem exec_octet {s : State} (h : Takes s) (n : Trunk) (o : Octet) :
    exec (.trunkOctetArrival n o) s = .next (octetArrival n o s) := taken_takes _ _ h

/-- In OFF an octet is discarded (R1). -/
theorem octetArrival_off {n : Trunk} {o : Octet} {s : State} (h : (s.framers[n]).state = .off) :
    octetArrival n o s = s := by
  unfold octetArrival
  exact if_pos h

/-- Outside OFF, and where RDI is not about to move, TRUNK-ALARM comes before the state's own handling (R1, R13). -/
theorem octetArrival_plain {n : Trunk} {o : Octet} {s : State} (on : (s.framers[n]).state ≠ .off)
    (still : rdiMoves s n = false) :
    octetArrival n o s
      = handleOctet n o (Claim.arrived s.framers[n] s.gen.tick o).alarms
          (Claim.alarmEvent n s.framers[n] (Claim.arrived s.framers[n] s.gen.tick o)
            (s.setFramer n (Claim.arrived s.framers[n] s.gen.tick o))) := by
  unfold octetArrival
  dsimp only
  rw [if_neg on, still, arrive_eq_arrived, setFramer_same, raiseAlarmFrom_eq n _ _ _ (setFramer_same ..)]
  rfl

/-- RDI does not move outside the completion of an aligned frame. -/
theorem rdiMoves_notAligned {n : Trunk} {s : State} (h : (s.framers[n]).state.isAligned = false) :
    rdiMoves s n = false := by
  unfold rdiMoves
  split
  · next a ha => rw [ha] at h; exact absurd h nofun
  all_goals rfl

theorem rdiMoves_early {n : Trunk} {s : State} (h : (s.stores[n]).inProgress.length < 35) : rdiMoves s n = false := by
  unfold rdiMoves
  split
  · dsimp only
    rw [decide_eq_false (by omega), Bool.false_and]
  all_goals rfl

/-! ### The handling of an octet in each state (R1, the table) -/

section handle
variable {n : Trunk} (o : Octet) (before : Nat) {s : State}

theorem handleOctet_noSignal (h : (s.framers[n]).state = .noSignal) :
    handleOctet n o before s
      = raise .trunkState (.trunk n) 0x0102 (s.setFramer n { s.framers[n] with state := .hunt (o == 0xB4) }) := by
  simp only [handleOctet, h]
  rfl

theorem handleOctet_hunt {w : Bool} (h : (s.framers[n]).state = .hunt w) :
    handleOctet n o before s = s.setFramer n { s.framers[n] with state := huntOctet w o } := by
  simp only [handleOctet, h]

theorem handleOctet_confirm {f : Fin 16} {kept : List Octet} (h : (s.framers[n]).state = .confirm f kept) :
    handleOctet n o before s = confirmOctet n f kept o s := by
  simp only [handleOctet, h]

theorem handleOctet_aligned {a : Alignment} (h : (s.framers[n]).state = .aligned a) :
    handleOctet n o before s = alignedOctet n a o before s := by
  simp only [handleOctet, h]

end handle

/-! ### The nibbles of an octet (5.1) -/

theorem highNibble_eq_ten (o : Octet) : highNibble o = 10 ↔ o.toNat / 16 = 10 := by
  have := o.isLt
  rw [highNibble, Fin.ext_iff]
  simp only [Fin.ofNat]
  have : o.toNat / 16 % 16 = o.toNat / 16 := Nat.mod_eq_of_lt (by omega)
  rw [this]
  rfl

theorem lowNibble_eq (o : Octet) : lowNibble o = Fin.ofNat 16 (o.toNat % 16) := by
  simp [lowNibble, Fin.ofNat]

theorem highNibble_eq (o : Octet) : highNibble o = Fin.ofNat 16 (o.toNat / 16) := rfl

/-- An octet examined in HUNT (R5). -/
theorem huntOctet_eq (w : Bool) (o : Octet) :
    huntOctet w o = if w = true ∧ o.toNat / 16 = 10 then .confirm (Fin.ofNat 16 (o.toNat % 16)) [o]
      else .hunt (o == 0xB4) := by
  simp only [huntOctet, highNibble_eq_ten, lowNibble_eq]
  rfl

/-! ### O9: an octet outside alignment -/

/-- An octet outside ALIGNED that leaves the framer in a state with the framer's own flags: the framer as it then is, and
one alarm event, whichever is written first. -/
theorem octetArrival_outside {n : Trunk} {o : Octet} {s : State} (on : (s.framers[n]).state ≠ .off)
    (still : rdiMoves s n = false) {F : Framer}
    (alarms : Claim.alarmSet (Claim.arrived s.framers[n] s.gen.tick o) = Claim.alarmSet F)
    {u : State → State}
    (handled : ∀ before v, v.framers[n] = Claim.arrived s.framers[n] s.gen.tick o →
      v.gen = s.gen → handleOctet n o before v = u (v.setFramer n F)) :
    octetArrival n o s = u (Claim.alarmEvent n s.framers[n] F (s.setFramer n F)) := by
  have arrived : (s.setFramer n (Claim.arrived s.framers[n] s.gen.tick o)).framers[n]
      = Claim.arrived s.framers[n] s.gen.tick o := setFramer_same ..
  rw [octetArrival_plain on still, handled _ _ (by rw [alarmEvent_framers, arrived]) (by rw [alarmEvent_gen]; rfl),
    alarmEvent_setFramer, setFramer_setFramer, alarmEvent_congr n _ _ _ F alarms]

theorem confirmOctet_fails {n : Trunk} {f : Fin 16} {kept : List Octet} {o : Octet} {s : State}
    (h : checksHold f (kept ++ [o]) = false) :
    confirmOctet n f kept o s = s.setFramer n { s.framers[n] with state := rescan (kept ++ [o]) } := by
  simp [confirmOctet, h]

theorem confirmOctet_keeps {n : Trunk} {f : Fin 16} {kept : List Octet} {o : Octet} {s : State}
    (h : checksHold f (kept ++ [o]) = true) (short : (kept ++ [o]).length < 73) :
    confirmOctet n f kept o s
      = s.setFramer n { s.framers[n] with
          state := .confirm f (kept ++ [o])
          frameStamp := if (kept ++ [o]).length = 72 then s.gen.tick else s.framers[n].frameStamp } := by
  unfold confirmOctet
  dsimp only
  rw [if_pos h, if_pos short]

/-- Settles O9: each state's own handling of an octet, after the effects of every arrival. -/
theorem octetOutsideAlignment : Obligations.OctetOutsideAlignment := by
  unfold Obligations.OctetOutsideAlignment
  refine ⟨fun n o s takes => ⟨fun off => ?_, fun noSignal => ?_, fun w hunt => ?_⟩,
    fun n o s e kept takes confirm => ⟨fun holds short => ?_, fun fails => ?_⟩⟩
  · rw [exec_octet takes, octetArrival_off off]
  · rw [exec_octet takes]
    refine congrArg _ (octetArrival_outside (by rw [noSignal]; nofun) (rdiMoves_notAligned (by rw [noSignal]; rfl)) ?_
      (u := raise .trunkState (.trunk n) 0x0102) fun before v hv _ => ?_)
    · rfl
    rw [handleOctet_noSignal _ _ (by rw [hv]; exact noSignal), hv]
  · rw [exec_octet takes]
    refine congrArg _ (octetArrival_outside (by rw [hunt]; nofun) (rdiMoves_notAligned (by rw [hunt]; rfl)) ?_
      (u := id) fun before v hv _ => ?_)
    · rfl
    rw [handleOctet_hunt _ _ (by rw [hv]; exact hunt), hv, huntOctet_eq]
    rfl
  · rw [exec_octet takes]
    refine congrArg _ (octetArrival_outside (by rw [confirm]; nofun) (rdiMoves_notAligned (by rw [confirm]; rfl)) ?_
      (u := id) fun before v hv hg => ?_)
    · rfl
    rw [handleOctet_confirm _ _ (by rw [hv]; exact confirm), confirmOctet_keeps holds short, hv, hg]
    rfl
  · rw [exec_octet takes]
    refine congrArg _ (octetArrival_outside (by rw [confirm]; nofun) (rdiMoves_notAligned (by rw [confirm]; rfl)) ?_
      (u := id) fun before v hv _ => ?_)
    · rfl
    rw [handleOctet_confirm _ _ (by rw [hv]; exact confirm), confirmOctet_fails fails, hv]
    rfl

end Sys2Proof.Machine
end

section
/-! OBLIGATIONS. The search: what the checks ask and which position a rescan finds (R5, R6); the entry to ALIGNED and the
octets of an aligned frame before its last (R7, R8, R10). -/

namespace Sys2Proof.Machine

/-! ### O10: the checks and the rescan -/

theorem numberOctet_add (e d : Fin 16) : numberOctet (e + d) = BitVec.ofNat 8 (0xA0 + (e.val + d.val) % 16) := rfl

theorem all_beq_iff (x : Option Octet) (v : Octet) : x.all (· == v) = true ↔ ∀ y, x = some y → y = v := by
  cases x <;> simp

theorem checksHold_iff (e : Fin 16) (os : List Octet) : checksHold e os = true ↔
    ∀ j x, os[j]? = some x →
      (j = 35 ∨ j = 71 → x = 0xB4)
        ∧ (j = 36 → x = BitVec.ofNat 8 (0xA0 + (e.val + 1) % 16))
        ∧ (j = 72 → x = BitVec.ofNat 8 (0xA0 + (e.val + 2) % 16)) := by
  have one := numberOctet_add e 1
  have two := numberOctet_add e 2
  simp only [checksHold, Bool.and_eq_true, all_beq_iff, one, two]
  constructor
  · rintro ⟨⟨⟨h35, h36⟩, h71⟩, h72⟩ j x hx
    refine ⟨?_, ?_, ?_⟩
    · rintro (rfl | rfl)
      · exact h35 x hx
      · exact h71 x hx
    · rintro rfl
      exact h36 x hx
    · rintro rfl
      exact h72 x hx
  · intro h
    exact ⟨⟨⟨fun x hx => (h 35 x hx).1 (.inl rfl), fun x hx => (h 36 x hx).2.1 rfl⟩,
      fun x hx => (h 71 x hx).1 (.inr rfl)⟩, fun x hx => (h 72 x hx).2.2 rfl⟩

/-- A candidate position at index i of the retained octets, of frame number e, whose own checks hold (R5, R6). -/
def PositionAt (os : List Octet) (i : Nat) (e : Fin 16) : Prop :=
  os[i]? = some 0xB4
    ∧ (∃ y, os[i + 1]? = some y ∧ y.toNat / 16 = 10 ∧ e = Fin.ofNat 16 (y.toNat % 16))
    ∧ checksHold e (os.drop (i + 1)) = true

theorem positionAt_succ (x : Octet) (os : List Octet) (i : Nat) (e : Fin 16) :
    PositionAt (x :: os) (i + 1) e ↔ PositionAt os i e := Iff.rfl

theorem not_positionAt_nil (i : Nat) (e : Fin 16) : ¬ PositionAt [] i e := fun h => by
  simpa using h.1

theorem not_positionAt_single (x : Octet) (i : Nat) (e : Fin 16) : ¬ PositionAt [x] i e := by
  rintro ⟨-, ⟨y, hy, -⟩, -⟩
  simp at hy

theorem positionAt_zero (x y : Octet) (os : List Octet) (e : Fin 16) :
    PositionAt (x :: y :: os) 0 e
      ↔ x = alignWord ∧ (highNibble y = 10 ∧ checksHold (lowNibble y) (y :: os) = true) ∧ e = lowNibble y := by
  unfold PositionAt
  simp only [List.getElem?_cons_zero, List.getElem?_cons_succ, Option.some.injEq, List.drop_succ_cons, List.drop_zero,
    highNibble_eq_ten, lowNibble_eq]
  constructor
  · rintro ⟨hx, ⟨z, rfl, hz, rfl⟩, hc⟩
    exact ⟨hx, ⟨hz, hc⟩, rfl⟩
  · rintro ⟨hx, ⟨hz, hc⟩, rfl⟩
    exact ⟨hx, ⟨y, rfl, hz, rfl⟩, hc⟩

/-- A rescan stops at the first octet where a position stands there. -/
theorem rescan_of_position {x y : Octet} {os : List Octet} {e : Fin 16} (h : PositionAt (x :: y :: os) 0 e) :
    rescan (x :: y :: os) = .confirm e (y :: os) := by
  obtain ⟨hx, hy, rfl⟩ := (positionAt_zero x y os e).mp h
  rw [rescan, if_pos hx]
  exact if_pos hy

/-- Where no position stands at the first octet, a rescan goes on with the rest. -/
theorem rescan_of_none {x y : Octet} {os : List Octet} (h : ∀ e, ¬ PositionAt (x :: y :: os) 0 e) :
    rescan (x :: y :: os) = rescan (y :: os) := by
  rw [rescan]
  by_cases hx : x = alignWord
  · rw [if_pos hx]
    exact if_neg fun hy => h (lowNibble y) ((positionAt_zero ..).mpr ⟨hx, hy, rfl⟩)
  · rw [if_neg hx]

theorem rescan_single (x : Octet) : rescan [x] = .hunt (x == alignWord) := by
  by_cases hx : x = alignWord <;> simp [rescan, hx]

/-- A rescan finds the first position (R6). -/
theorem rescan_first (os : List Octet) (i : Nat) (e : Fin 16) (found : PositionAt os i e)
    (first : ∀ j < i, ∀ d, ¬ PositionAt os j d) : rescan os = .confirm e (os.drop (i + 1)) := by
  induction os generalizing i with
  | nil => exact absurd found (not_positionAt_nil i e)
  | cons x os ih =>
    cases os with
    | nil => exact absurd found (not_positionAt_single x i e)
    | cons y os =>
      cases i with
      | zero => exact rescan_of_position found
      | succ i =>
        rw [rescan_of_none (first 0 (Nat.succ_pos i))]
        exact ih i found fun j hj d => first (j + 1) (Nat.succ_lt_succ hj) d

/-- A rescan without a position remembers whether the last octet was 0xB4 (R6). -/
theorem rescan_none (os : List Octet) (none : ∀ i e, ¬ PositionAt os i e) :
    rescan os = .hunt (os.getLast? == some 0xB4) := by
  induction os with
  | nil => rfl
  | cons x os ih =>
    cases os with
    | nil => exact rescan_single x
    | cons y os =>
      rw [rescan_of_none (none 0), ih fun i e => none (i + 1) e, List.getLast?_cons_cons]

/-- Settles O10. -/
theorem rescanFindsTheFirstPosition : Obligations.RescanFindsTheFirstPosition := by
  unfold Obligations.RescanFindsTheFirstPosition
  exact ⟨checksHold_iff, fun os => ⟨rescan_first os, rescan_none os⟩⟩

/-! ### O11: the entry to ALIGNED -/

theorem confirmOctet_enters {n : Trunk} {f : Fin 16} {kept : List Octet} {o : Octet} {s : State}
    (holds : checksHold f (kept ++ [o]) = true) (full : kept.length = 72) :
    confirmOctet n f kept o s = enterAligned n f o s := by
  unfold confirmOctet
  dsimp only
  rw [if_pos holds, if_neg (by simp [full])]

/-- What the entry to ALIGNED writes: framer, TRUNK-STATE, store, then the marker (R7, R21). -/
theorem enterAligned_eq {n : Trunk} {f : Fin 16} {o : Octet} {s : State} {kept : List Octet}
    (h : (s.framers[n]).state = .confirm f kept) :
    enterAligned n f o s
      = raiseMarker (.trunk n) (s.framers[n]).frameStamp
          (raise .trunkState (.trunk n) 0x0304
            ((s.setFramer n { s.framers[n] with
                state := .aligned { expected := f + 2, errored := false, erroredRun := 0 } }).setStore n
              { s.stores[n] with state := .priming, queue := [], inProgress := [0xB4, o], last := none })) := by
  unfold enterAligned
  dsimp only
  rw [h, State.setStore_framers, raiseTrunkState_framers, setFramer_same]
  rfl

/-- Settles O11. -/
theorem entryToAligned : Obligations.EntryToAligned := by
  unfold Obligations.EntryToAligned
  intro n o s e kept takes confirm full holds
  dsimp only
  rw [exec_octet takes, octetArrival_plain (by rw [confirm]; nofun) (rdiMoves_notAligned (by rw [confirm]; rfl))]
  have arrived : (Claim.alarmEvent n s.framers[n] (Claim.arrived s.framers[n] s.gen.tick o)
      (s.setFramer n (Claim.arrived s.framers[n] s.gen.tick o))).framers[n]
        = Claim.arrived s.framers[n] s.gen.tick o := by rw [alarmEvent_framers, setFramer_same]
  rw [handleOctet_confirm _ _ (by rw [arrived]; exact confirm), confirmOctet_enters holds full,
    enterAligned_eq (by rw [arrived]; exact confirm), arrived, alarmEvent_stores, alarmEvent_setFramer,
    setFramer_setFramer, alarmEvent_setStore]
  rfl

end Sys2Proof.Machine
end

section
/-! OBLIGATIONS. An aligned frame, its completion and the loss of alignment (R8 to R17); loss of signal and RESTART (R3, R18). -/

namespace Sys2Proof.Machine

/-! ### O12: the octets before the last -/

/-- Before the last octet of a frame, the arrival's framer and one alarm event, then the octet by its position. -/
theorem octetArrival_aligned {n : Trunk} {o : Octet} {s : State} {a : Alignment} (h : (s.framers[n]).state = .aligned a)
    (still : rdiMoves s n = false) :
    octetArrival n o s
      = alignedOctet n a o (Claim.arrived s.framers[n] s.gen.tick o).alarms
          (Claim.alarmEvent n s.framers[n] (Claim.arrived s.framers[n] s.gen.tick o)
            (s.setFramer n (Claim.arrived s.framers[n] s.gen.tick o))) := by
  rw [octetArrival_plain (by rw [h]; nofun) still]
  exact handleOctet_aligned _ _ (by rw [alarmEvent_framers, setFramer_same]; exact h)

section position
variable {n : Trunk} {a : Alignment} (o : Octet) (before : Nat) {s : State}

theorem alignedOctet_first (h : (s.stores[n]).inProgress = []) :
    alignedOctet n a o before s
      = (s.setFramer n { s.framers[n] with
            state := .aligned { a with expected := a.expected + 1 }, frameStamp := s.gen.tick }).setStore n
          { s.stores[n] with inProgress := (s.stores[n]).inProgress ++ [o] } := by
  simp only [alignedOctet, h, joinFrame, State.setFramer_stores]

theorem alignedOctet_second {first : Octet} (h : (s.stores[n]).inProgress = [first]) :
    alignedOctet n a o before s
      = raiseMarker (.trunk n) (s.framers[n]).frameStamp
          ((s.setFramer n { s.framers[n] with state := .aligned (a.decide first o) }).setStore n
            { s.stores[n] with inProgress := (s.stores[n]).inProgress ++ [o] }) := by
  simp only [alignedOctet, h, joinFrame, State.setFramer_stores]

/-- From position 2 on the octet joins the frame, or completes it. -/
theorem alignedOctet_later (h : 2 ≤ (s.stores[n]).inProgress.length) :
    alignedOctet n a o before s
      = if (s.stores[n]).inProgress.length < 35 then
          s.setStore n { s.stores[n] with inProgress := (s.stores[n]).inProgress ++ [o] }
        else completeFrame n a ((s.stores[n]).inProgress ++ [o]) before s := by
  unfold alignedOctet
  dsimp only
  split
  · next got => rw [got] at h; exact absurd h (by decide)
  · next first got => rw [got] at h; simp at h
  · rfl

end position

theorem decide_eq (a : Alignment) (first o : Octet) :
    a.decide first o
      = { a with errored := decide ¬ (first = 0xB4 ∧ o = BitVec.ofNat 8 (0xA0 + a.expected.val)) } := by
  have number : numberOctet a.expected = BitVec.ofNat 8 (0xA0 + a.expected.val) := rfl
  have word : alignWord = 0xB4 := rfl
  unfold Alignment.decide
  rw [number, word]
  congr 1
  rw [Bool.eq_iff_iff]
  simp only [Bool.or_eq_true, bne_iff_ne, ne_eq, decide_eq_true_eq, not_and_or]

/-- Settles O12. -/
theorem octetsOfAnAlignedFrame : Obligations.OctetsOfAnAlignedFrame := by
  unfold Obligations.OctetsOfAnAlignedFrame
  intro n o s a takes aligned
  dsimp only
  have arrived : (Claim.alarmEvent n s.framers[n] (Claim.arrived s.framers[n] s.gen.tick o)
      (s.setFramer n (Claim.arrived s.framers[n] s.gen.tick o))).framers[n]
        = Claim.arrived s.framers[n] s.gen.tick o := by rw [alarmEvent_framers, setFramer_same]
  have stores : (Claim.alarmEvent n s.framers[n] (Claim.arrived s.framers[n] s.gen.tick o)
      (s.setFramer n (Claim.arrived s.framers[n] s.gen.tick o))).stores[n] = s.stores[n] := by
    rw [alarmEvent_stores, State.setFramer_stores]
  rw [exec_octet takes]
  refine ⟨fun none => ?_, fun first one => ?_, fun more short => ?_⟩
  · rw [octetArrival_aligned aligned (rdiMoves_early (by rw [none]; decide)),
      alignedOctet_first _ _ (by rw [stores]; exact none), arrived, stores, alarmEvent_gen, alarmEvent_setFramer,
      setFramer_setFramer, alarmEvent_setStore]
    rfl
  · rw [octetArrival_aligned aligned (rdiMoves_early (by rw [one]; simp)),
      alignedOctet_second _ _ (by rw [stores]; exact one), arrived, stores, alarmEvent_setFramer, setFramer_setFramer,
      alarmEvent_setStore, decide_eq]
    rfl
  · rw [octetArrival_aligned aligned (rdiMoves_early short), alignedOctet_later _ _ (by rw [stores]; exact more),
      if_pos (by rw [stores]; exact short), stores, alarmEvent_setStore]

/-! ### O14: the persisted QL and the source identifier -/

/-- Settles O14: the cases of the tables of R15 and R16. -/
theorem persistedQlAndSourceIdentifier : Obligations.PersistedQlAndSourceIdentifier := by
  unfold Obligations.PersistedQlAndSourceIdentifier
  refine ⟨fun f q => ⟨rfl, ?_⟩, fun f o => ⟨fun number e h0 h1 => ?_, rfl, rfl, ?_, fun hk => ?_, fun hi hk => ?_⟩⟩
  · simp [Framer.persistQl, bump_eq_min]
  · unfold Framer.assemble
    rw [if_neg h0, if_neg h1]
  · rfl
  · simp [Framer.assemble, hk]
  · refine ⟨_, by simp only [Framer.assemble, hk]; rfl, ?_, ?_, ?_, ?_⟩
    · intro h
      simp [h, word16]
    · intro w h hw
      simp [h, word16, hw]
    · intro h hp
      simp [h, hp, word16]
    · intro h hp
      simp [h, hp, word16]

end Sys2Proof.Machine
end

section
/-! OBLIGATIONS. The completion of a frame, the loss of alignment, and the end of the signal (R3, R9, R11 to R17). -/

namespace Sys2Proof.Machine

/-! ### A completed frame in the words of the claims -/

theorem frameRecord_eq (octets : List Octet) (a : Alignment) (stamp : Tick) :
    frameRecord octets a.expected a.errored stamp = Claim.recordOf octets a stamp := by
  unfold frameRecord Claim.recordOf trafficOf highNibble rdiBit
  simp [List.getD_eq_getElem?_getD]

theorem completed_eq_finished (f : Framer) (a : Alignment) (octets : List Octet) :
    f.completed a octets = Claim.finished f a octets := by
  unfold Framer.completed Claim.finished Alignment.completed
  rw [bump_eq_min]
  rfl

@[simp] theorem persistQl_los (f : Framer) (e : Bool) (q : Ql) : (f.persistQl e q).los = f.los := by
  unfold Framer.persistQl; split <;> rfl
@[simp] theorem persistQl_ais (f : Framer) (e : Bool) (q : Ql) : (f.persistQl e q).ais = f.ais := by
  unfold Framer.persistQl; split <;> rfl

/-- The source identifier's assembly leaves the alarms alone (R16). -/
theorem assemble_alarms (f : Framer) (number : Fin 16) (e : Bool) (o : Octet) :
    (f.assemble number e o).los = f.los ∧ (f.assemble number e o).ais = f.ais := by
  unfold Framer.assemble
  split
  · exact ⟨rfl, rfl⟩
  · split
    · dsimp only
      split <;> exact ⟨rfl, rfl⟩
    · exact ⟨rfl, rfl⟩

@[simp] theorem finished_los (f : Framer) (a : Alignment) (octets : List Octet) :
    (Claim.finished f a octets).los = f.los := ((assemble_alarms ..).1).trans (persistQl_los ..)
@[simp] theorem finished_ais (f : Framer) (a : Alignment) (octets : List Octet) :
    (Claim.finished f a octets).ais = f.ais := ((assemble_alarms ..).2).trans (persistQl_ais ..)

/-- A completion can move no alarm but RDI. -/
theorem alarmSet_finished (f : Framer) (a : Alignment) (octets : List Octet)
    (h : (Claim.finished f a octets).rdi = f.rdi) :
    Claim.alarmSet (Claim.finished f a octets) = Claim.alarmSet f := by
  unfold Claim.alarmSet
  rw [finished_los, finished_ais, h]

@[simp] theorem completedBy_framers (n : Trunk) (r : FrameRecord) (F : Framer) (s : State) :
    (Claim.completed n r F s).framers = s.framers.set n F := by
  have arrived : (storeArrival n r (s.setStore n { s.stores[n] with inProgress := [] })).framers = s.framers :=
    storeArrival_framers ..
  exact congrArg (fun v : Vector Framer 48 => v.set n F) arrived

theorem completedBy_framer (n : Trunk) (r : FrameRecord) (F : Framer) (s : State) :
    (Claim.completed n r F s).framers[n] = F := by simp

theorem clearAligned_eq_cleared (f : Framer) (new : FramerState) : f.clearAligned new = Claim.cleared f new := rfl

/-- Leaving ALIGNED in the order of R17, as the claims write it. -/
theorem leaveAligned_eq {n : Trunk} {f : Framer} {s : State} (h : s.framers[n] = f) (new : FramerState)
    (before : Framer) :
    leaveAligned n new (some before.alarms) s
      = Claim.left n (Claim.cleared f new) (detailOf f.state.number new.number) before s := by
  unfold leaveAligned Claim.left
  dsimp only
  rw [tellMonitors_framers, State.setStore_framers, h, clearAligned_eq_cleared,
    raiseAlarmFrom_eq n before (Claim.cleared f new) _ (by rw [raiseTrunkState_framers, setFramer_same])]
  rfl

/-- A frame's completion: the hand-over and the framer's own updates, then the loss of alignment or the alarm (R9, R11). -/
theorem completeFrame_eq {n : Trunk} {a : Alignment} {octets : List Octet} {before : Nat} {s : State} {g : Framer}
    (h : s.framers[n] = g) :
    completeFrame n a octets before s
      = (let v := Claim.completed n (Claim.recordOf octets a g.frameStamp) (Claim.finished g a octets) s
         if a.errored = true ∧ 2 ≤ a.erroredRun then leaveAligned n (.hunt false) (some before) v
         else raiseAlarmFrom n before v) := by
  have lost : 3 ≤ a.completed.erroredRun ↔ a.errored = true ∧ 2 ≤ a.erroredRun := by
    unfold Alignment.completed
    cases a.errored <;> simp
  unfold completeFrame Claim.completed
  dsimp only
  rw [frameRecord_eq, storeArrival_framers, State.setStore_framers, h, completed_eq_finished]
  simp only [lost]
  rfl

section lastOctet
variable {n : Trunk} {o : Octet} {s : State} {a : Alignment}

/-- Whether the last octet of a frame moves RDI (R12, R13). -/
theorem rdiMoves_last (aligned : (s.framers[n]).state = .aligned a) (full : (s.stores[n]).inProgress.length = 35) :
    rdiMoves s n = (a.rdiAfter (s.framers[n]).rdi ((s.stores[n]).inProgress.getD 2 0) != (s.framers[n]).rdi) := by
  simp only [rdiMoves, aligned, full, le_refl, decide_true, Bool.true_and]

/-- The last octet where RDI stands: the alarm event of the arrival, then the completion. -/
theorem octetArrival_last_still (aligned : (s.framers[n]).state = .aligned a)
    (full : (s.stores[n]).inProgress.length = 35) (still : rdiMoves s n = false) :
    octetArrival n o s
      = completeFrame n a ((s.stores[n]).inProgress ++ [o]) (Claim.arrived s.framers[n] s.gen.tick o).alarms
          (Claim.alarmEvent n s.framers[n] (Claim.arrived s.framers[n] s.gen.tick o)
            (s.setFramer n (Claim.arrived s.framers[n] s.gen.tick o))) := by
  have stores : (Claim.alarmEvent n s.framers[n] (Claim.arrived s.framers[n] s.gen.tick o)
      (s.setFramer n (Claim.arrived s.framers[n] s.gen.tick o))).stores[n] = s.stores[n] := by
    rw [alarmEvent_stores, State.setFramer_stores]
  rw [octetArrival_aligned aligned still, alignedOctet_later _ _ (by rw [stores, full]; decide),
    if_neg (by rw [stores, full]; decide), stores]

/-- The last octet where RDI moves: the completion first, whose one alarm event is against the set before (R13). -/
theorem octetArrival_last_moves (aligned : (s.framers[n]).state = .aligned a)
    (full : (s.stores[n]).inProgress.length = 35) (moves : rdiMoves s n = true) :
    octetArrival n o s
      = completeFrame n a ((s.stores[n]).inProgress ++ [o]) (s.framers[n]).alarms
          (s.setFramer n (Claim.arrived s.framers[n] s.gen.tick o)) := by
  unfold octetArrival
  dsimp only
  rw [if_neg (by rw [aligned]; nofun), if_pos moves, arrive_eq_arrived,
    handleOctet_aligned _ _ (by rw [setFramer_same]; exact aligned),
    alignedOctet_later _ _ (by rw [State.setFramer_stores, full]; decide),
    if_neg (by rw [State.setFramer_stores, full]; decide), State.setFramer_stores]

end lastOctet

/-! ### O13 and O15 -/

/-- The third octet of a frame is the same with and without the frame's last. -/
theorem getD_two_append {os : List Octet} (o : Octet) (h : os.length = 35) : (os ++ [o]).getD 2 0 = os.getD 2 0 := by
  rw [List.getD_append _ _ _ _ (by omega)]

/-- Settles O13. -/
theorem frameCompletion : Obligations.FrameCompletion := by
  unfold Obligations.FrameCompletion
  intro n o s a takes aligned full kept
  dsimp only
  have moved : rdiMoves s n = ((Claim.finished (Claim.arrived s.framers[n] s.gen.tick o) a
      ((s.stores[n]).inProgress ++ [o])).rdi != (s.framers[n]).rdi) := by
    rw [rdiMoves_last aligned full]
    unfold Alignment.rdiAfter Claim.finished
    dsimp only
    rw [getD_two_append o full, arrived_rdi]
    cases he : a.errored
    · rfl
    · have young : ¬ 2 ≤ a.erroredRun := fun h => kept ⟨he, h⟩
      rw [if_neg young, if_pos rfl, if_pos rfl]
  rw [exec_octet takes]
  refine congrArg _ ?_
  split
  · next same =>
    rw [octetArrival_last_still aligned full (by rw [moved, same, bne_self_eq_false]),
      completeFrame_eq (by rw [alarmEvent_framers, setFramer_same])]
    dsimp only
    rw [if_neg kept, raiseAlarmFrom_eq n _ _ _ (completedBy_framer ..), alarmEvent_same _ _ _ _ (alarmSet_finished _ _ _ same)]
    rfl
  · next differs =>
    rw [octetArrival_last_moves aligned full (by rw [moved]; exact bne_iff_ne.mpr differs),
      completeFrame_eq (setFramer_same ..)]
    dsimp only
    rw [if_neg kept, raiseAlarmFrom_eq n _ _ _ (completedBy_framer ..)]
    rfl

/-- Settles O15. -/
theorem lossOfAlignment : Obligations.LossOfAlignment := by
  unfold Obligations.LossOfAlignment
  intro n o s a takes aligned full errored third
  dsimp only
  have moved : rdiMoves s n = (s.framers[n]).rdi := by
    rw [rdiMoves_last aligned full, Alignment.rdiAfter, if_pos errored, if_pos third, Bool.false_bne]
  rw [exec_octet takes]
  refine congrArg _ ?_
  split
  · next set =>
    rw [octetArrival_last_moves aligned full (by rw [moved, set]), completeFrame_eq (setFramer_same ..)]
    dsimp only
    rw [if_pos ⟨errored, third⟩, leaveAligned_eq (completedBy_framer ..)]
    rfl
  · next clear =>
    rw [octetArrival_last_still aligned full (by rw [moved]; exact eq_false_of_ne_true clear),
      completeFrame_eq (by rw [alarmEvent_framers, setFramer_same])]
    dsimp only
    rw [if_pos ⟨errored, third⟩, leaveAligned_eq (completedBy_framer ..)]
    rfl

/-! ### O16: the loss-of-signal timer -/

theorem exec_signal {s : State} (h : Takes s) (n : Trunk) :
    exec (.lossOfSignalExpiry n) s = .next (expireSignal n s) := taken_takes _ _ h

theorem timerOver_some {s : State} {b : Tick} {limit : Nat} (h : limit ≤ (s.gen.tick - b).toNat) :
    timerOver s (some b) limit = true := decide_eq_true h

theorem timerOver_false {s : State} {start : Option Tick} {limit : Nat}
    (h : ∀ b, start = some b → (s.gen.tick - b).toNat < limit) : timerOver s start limit = false := by
  cases start with
  | none => rfl
  | some b => exact decide_eq_false (Nat.not_le.mpr (h b rfl))

/-- Settles O16: one case per framer state. -/
theorem lossOfSignalExpiry : Obligations.LossOfSignalExpiry := by
  unfold Obligations.LossOfSignalExpiry
  intro n s takes
  dsimp only
  rw [exec_signal takes]
  refine ⟨fun running => ?_, fun b started ran => ?_⟩
  · have notDue : losDue s n = false := timerOver_false running
    rw [expireSignal, notDue]
    rfl
  · have due : losDue s n = true := by rw [losDue, started]; exact timerOver_some ran
    unfold expireSignal
    rw [if_pos due]
    dsimp only
    refine ⟨fun h => ?_, fun w h => ?_, fun e os h => ?_, fun a h => ?_⟩
    · simp only [h]
      exact congrArg _ (raiseAlarmFrom_eq n _ _ _ (setFramer_same ..))
    · simp only [h]
      rw [setFramer_setFramer, setFramer_same]
      exact congrArg _ (raiseAlarmFrom_eq n _ _ _ (setFramer_same ..))
    · simp only [h]
      rw [setFramer_setFramer, setFramer_same]
      exact congrArg _ (raiseAlarmFrom_eq n _ _ _ (setFramer_same ..))
    · simp only [h]
      exact congrArg _ (leaveAligned_eq (setFramer_same ..) _ _)

end Sys2Proof.Machine
end

section
/-! OBLIGATIONS. TRUNK RESTART and RECENTER, CLEAR COUNTERS (R18, R32, R37), and the answers they are given (R151, R153). -/

namespace Sys2Proof.Machine

/-! ### Answers in the words of the claims -/

theorem octet_add (m n : Nat) : octet (m + n) = octet m + octet n := BitVec.ofNat_add ..

theorem octet_weigh (b : Bool) (w : Nat) : octet (weigh b w) = if b then octet w else 0 := by cases b <;> rfl

/-- A flag for a list that holds something. -/
theorem octet_weigh_nonempty {α : Type} (xs : List α) [Decidable (xs = [])] (w : Nat) :
    octet (weigh (!xs.isEmpty) w) = if xs = [] then 0 else octet w := by
  cases xs <;> simp [octet_weigh]

theorem octet_weigh_isSome {α : Type} (x : Option α) [Decidable (x = none)] (w : Nat) :
    octet (weigh x.isSome w) = if x = none then 0 else octet w := by
  cases x <;> simp [octet_weigh]

theorem responseFlags_eq (s : State) (l : LinkId) : responseFlags (s.link l) s.commit.isSome = Claim.flags s l := by
  unfold responseFlags Claim.flags
  rw [octet_add, octet_add, octet_add, octet_weigh_nonempty, octet_weigh_nonempty, octet_weigh_isSome, octet_weigh]
  rfl

theorem makeResponse_eq (s : State) (l : LinkId) (kind tag : Octet) (status : Status) (body : List Octet) :
    makeResponse s l kind tag status body = Claim.reply s l kind tag status body := by
  unfold makeResponse Claim.reply
  rw [responseFlags_eq]

theorem send_eq_sent (k : Link) (r : Response) : k.send r = Claim.sent k r := by
  unfold Link.send Claim.sent
  cases k.sending <;> rfl

theorem answer_eq (l : LinkId) (q : Request) (status : Status) (body : List Octet) (s : State) :
    answer l q status body s = Claim.answered l q.kind q.tag status body s := by
  unfold answer Claim.answered
  rw [makeResponse_eq, send_eq_sent]

/-! ### A trunk operand -/

theorem below_none {n : Nat} {o : Octet} (h : n ≤ o.toNat) : below n o = none := dif_neg (Nat.not_lt.mpr h)

theorem below_some {n : Nat} {o : Octet} {x : Fin n} (h : o.toNat = x.val) : below n o = some x := by
  unfold below
  rw [dif_pos (by rw [h]; exact x.isLt)]
  exact congrArg some (Fin.ext h)

/-- A TRUNK request for a trunk above 47 is refused BAD-VALUE (R155). -/
theorem handleTrunk_above {l : LinkId} {q : Request} {action trunk : Octet} {s : State} (h : 48 ≤ trunk.toNat) :
    handleTrunk l q action trunk s = Claim.answered l q.kind q.tag .badValue [] s := by
  unfold handleTrunk
  rw [below_none h, answer_eq]

theorem exec_restart {l : LinkId} {tag trunk : Octet} {check : Word16} {s : State} (ready : Ready s l)
    (right : check = checkFor 7 tag [1, trunk]) :
    exec (.restart l tag trunk check) s
      = .next (handleTrunk l { kind := 7, tag := tag, body := [1, trunk], check := check } 1 trunk s) :=
  request_ready l 7 tag [1, trunk] check s ready right

theorem exec_recenter {l : LinkId} {tag trunk : Octet} {check : Word16} {s : State} (ready : Ready s l)
    (right : check = checkFor 7 tag [2, trunk]) :
    exec (.recenter l tag trunk check) s
      = .next (handleTrunk l { kind := 7, tag := tag, body := [2, trunk], check := check } 2 trunk s) :=
  request_ready l 7 tag [2, trunk] check s ready right

/-! ### O17: RESTART -/

theorem handleTrunk_restart {l : LinkId} {q : Request} {trunk : Octet} {n : Trunk} {s : State}
    (h : trunk.toNat = n.val) :
    handleTrunk l q 1 trunk s
      = if (s.cfg.trunks[n]).enabled = true then Claim.answered l q.kind q.tag .ok [] (restartTrunk n s)
        else Claim.answered l q.kind q.tag .invalidState [] s := by
  unfold handleTrunk
  rw [below_some h]
  simp only [if_true, handleRestart, answer_eq]

/-- Settles O17: the refusals, then one case per framer state. -/
theorem restartOfATrunk : Obligations.RestartOfATrunk := by
  unfold Obligations.RestartOfATrunk
  intro l tag trunk check s ready right
  rw [exec_restart ready right]
  refine ⟨fun above => congrArg _ (handleTrunk_above above), fun n hn => ?_⟩
  dsimp only
  rw [handleTrunk_restart hn]
  refine ⟨fun disabled => ?_, fun enabled => ?_⟩
  · rw [if_neg (by rw [disabled]; nofun)]
  · rw [if_pos enabled]
    have restarted : ∀ u, restartTrunk n s = u → Host.Outcome.next (φ := Fault) (ρ := Refusal)
        (Claim.answered l 7 tag .ok [] (restartTrunk n s)) = .next (Claim.answered l 7 tag .ok [] u) :=
      fun u hu => by rw [hu]
    refine ⟨fun h => restarted _ ?_, ?_, fun a h => restarted _ ?_⟩
    · simp only [restartTrunk, h]
    · rintro (⟨w, h⟩ | ⟨e, os, h⟩)
      · refine restarted _ ?_
        simp only [restartTrunk, h]
      · refine restarted _ ?_
        simp only [restartTrunk, h]
    · simp only [restartTrunk, h]
      rw [leaveAligned_eq rfl, h]
      rfl

/-! ### O22: RECENTER and CLEAR COUNTERS -/

theorem pushBounded_eq {α : Type} (limit : Nat) (xs : List α) (x : α) :
    pushBounded limit xs x = (if xs.length < limit then xs else xs.tail) ++ [x] := by
  unfold pushBounded
  split
  · rfl
  · rw [List.drop_one]

theorem handleTrunk_recenter {l : LinkId} {q : Request} {trunk : Octet} {n : Trunk} {s : State}
    (h : trunk.toNat = n.val) :
    handleTrunk l q 2 trunk s
      = if (s.stores[n]).state = .run then
          Claim.answered l q.kind q.tag .ok []
            (s.setStore n (s.stores[n].recenter (slipRecord s .recenter (s.stores[n]).queue.length)))
        else Claim.answered l q.kind q.tag .invalidState [] s := by
  have other : ¬ (2 : Octet) = 1 := by decide
  unfold handleTrunk
  rw [below_some h]
  simp only [if_neg other, if_true, handleRecenter, answer_eq]
  cases (s.stores[n]).state <;> rfl

theorem exec_clearCounters {l : LinkId} {tag : Octet} {check : Word16} {s : State} (ready : Ready s l)
    (right : check = checkFor 10 tag [1]) :
    exec (.clearCounters l tag check) s
      = .next (Claim.answered l 10 tag .ok [] (raise .countersCleared (.link l) 0 (clearCounters s))) := by
  refine (request_ready l 10 tag [1] check s ready right).trans (congrArg _ ?_)
  exact answer_eq l { kind := 10, tag := tag, body := [1], check := check } .ok [] _

theorem clearCounters_shape (s : State) :
    clearCounters s = { s with stores := (clearCounters s).stores, framers := (clearCounters s).framers } := by
  unfold clearCounters; rfl
theorem clearCounters_store (s : State) (n : Trunk) :
    (clearCounters s).stores[n] = { s.stores[n] with repeats := 0, deletes := 0 } := by simp [clearCounters]
theorem clearCounters_framer (s : State) (n : Trunk) :
    (clearCounters s).framers[n] = { s.framers[n] with alignErrors := 0 } := by simp [clearCounters]

/-- Settles O22. -/
theorem recenterAndClearCounters : Obligations.RecenterAndClearCounters := by
  unfold Obligations.RecenterAndClearCounters
  refine ⟨fun l tag trunk check s ready right => ?_, fun l tag check s ready right => ?_⟩
  · rw [exec_recenter ready right]
    refine ⟨fun above => congrArg _ (handleTrunk_above above), fun n hn => ?_⟩
    dsimp only
    rw [handleTrunk_recenter hn]
    refine ⟨fun other => by rw [if_neg other], fun run => ?_⟩
    rw [if_pos run, Store.recenter, pushBounded_eq]
    rfl
  · exact ⟨clearCounters s, clearCounters_shape s, fun n => ⟨clearCounters_store s n, clearCounters_framer s n⟩,
      exec_clearCounters ready right⟩

end Sys2Proof.Machine
end

section
/-! OBLIGATION. A framer that leaves ALIGNED tells the monitors on its trunk (R17, R77, R78, R99, R107). -/

namespace Sys2Proof.Machine

/-! ### One candidate's runtime record after a write -/

@[simp] theorem setCand_same (s : State) (c : Cand) (x : Runtime) : (s.setCand c x).cands[c] = x := by simp

theorem setCand_other (s : State) (c d : Cand) (x : Runtime) (h : d ≠ c) : (s.setCand c x).cands[d] = s.cands[d] := by
  simp [Fin.val_ne_of_ne h.symm]

@[simp] theorem setCand_setCand (s : State) (c : Cand) (x y : Runtime) :
    (s.setCand c x).setCand c y = s.setCand c y := by simp [State.setCand]

theorem raise_setCand (kind : EventKind) (subject : Subject) (detail : Word16) (c : Cand) (x : Runtime) (s : State) :
    (raise kind subject detail s).setCand c x = raise kind subject detail (s.setCand c x) := rfl

@[simp] theorem setCand_gradingToCome (s : State) (c d : Cand) (x : Runtime) :
    (s.setCand c x).gradingToCome d = s.gradingToCome d := rfl
@[simp] theorem raise_gradingToCome (kind : EventKind) (subject : Subject) (detail : Word16) (s : State) (c : Cand) :
    (raise kind subject detail s).gradingToCome c = s.gradingToCome c := rfl

/-! ### The generator's instants in the words of the claims -/

theorem startDue_iff (s : State) : s.startDue = true ↔ Claim.Due s := by
  unfold State.startDue Claim.Due
  exact beq_iff_eq

theorem gradingToCome_iff (s : State) (c : Cand) : s.gradingToCome c = true ↔ Claim.GradingToCome s c := by
  unfold State.gradingToCome Claim.GradingToCome
  rw [Bool.and_eq_true, Bool.and_eq_true, startDue_iff, beq_iff_eq, and_assoc]

/-! ### An activity loss -/

/-- A class lost where the evaluation of the instant is to tell it: no event (R101; assumption 26). -/
theorem loseClass_owed {c : Cand} {s : State} (lost : (s.cands[c]).cls ≠ 0) (owed : s.gradingToCome c = true) :
    loseClass c s = s.setCand c { s.cands[c] with cls := 0, lostCls := some (s.cands[c]).cls, wait := none } := by
  unfold loseClass
  exact if_pos ⟨lost, owed⟩

/-- A class lost and told at once (R99). -/
theorem loseClass_told {c : Cand} {s : State} (lost : (s.cands[c]).cls ≠ 0) (owed : ¬ s.gradingToCome c = true) :
    loseClass c s
      = raise .cls (.candidate c) (detailOf (s.cands[c]).cls.val 0)
          (s.setCand c { s.cands[c] with cls := 0, wait := none }) := by
  unfold loseClass setClass
  dsimp only
  rw [if_neg (fun h => owed h.2), if_neg lost.symm, Runtime.classChanged, if_neg lost, if_pos rfl]
  rfl

theorem loseClass_none {c : Cand} {s : State} (none : (s.cands[c]).cls = 0) : loseClass c s = s := by
  unfold loseClass setClass
  dsimp only
  rw [if_neg (fun h => h.1 none), if_pos none.symm]

/-- An active monitor goes to INACTIVE as the claims write it (R78, R99, R101). -/
theorem goInactive_active {c : Cand} {s : State} (active : (s.cands[c]).state.isActive = true) :
    goInactive c s = Claim.wentInactive c s := by
  have told : loseClass c (setLoop c false (raiseMonitor c (s.cands[c]).state .inactive
        (s.setCand c (s.cands[c]).abandonWindow)))
      = (let u := raise .monitor (.candidate c) (BitVec.ofNat 16 (256 * (s.cands[c]).state.number + 1))
          (s.setCand c (Claim.lost (decide (Claim.GradingToCome s c)) s.cands[c]))
         if (s.cands[c]).cls = 0 ∨ Claim.GradingToCome s c then u
         else raise .cls (.candidate c) (BitVec.ofNat 16 (256 * (s.cands[c]).cls.val)) u) := by
    unfold setLoop raiseMonitor
    rw [raise_cands, setCand_same, raise_setCand, setCand_setCand]
    by_cases hc : (s.cands[c]).cls = 0
    · rw [loseClass_none (by rw [raise_cands, setCand_same]; exact hc)]
      dsimp only
      rw [if_pos (.inl hc)]
      simp only [Claim.lost, hc, if_true, ne_eq, not_true, and_false, if_false]
      rw [← hc]
      rfl
    · by_cases hg : Claim.GradingToCome s c
      · rw [loseClass_owed (by rw [raise_cands, setCand_same]; exact hc)
          (by rw [raise_gradingToCome, setCand_gradingToCome]; exact (gradingToCome_iff s c).mpr hg),
          raise_cands, setCand_same, raise_setCand, setCand_setCand]
        dsimp only
        rw [if_pos (.inr hg), decide_eq_true hg, Claim.lost, if_neg hc, if_pos ⟨rfl, hc⟩]
        rfl
      · rw [loseClass_told (by rw [raise_cands, setCand_same]; exact hc)
          (by rw [raise_gradingToCome, setCand_gradingToCome]; exact fun h => hg ((gradingToCome_iff s c).mp h)),
          raise_cands, setCand_same, raise_setCand, setCand_setCand]
        dsimp only
        rw [if_neg (not_or.mpr ⟨hc, hg⟩), decide_eq_false hg, Claim.lost, if_neg hc, if_neg (fun h => nomatch h.1)]
        rfl
  unfold goInactive
  dsimp only
  rw [if_pos active]
  unfold loseActivity
  dsimp only
  rw [told]
  rfl

theorem goInactive_inactive {c : Cand} {s : State} (h : ¬ (s.cands[c]).state.isActive = true) : goInactive c s = s :=
  if_neg h

/-- What an activity loss leaves of the candidates: candidate c alone has changed. -/
theorem wentInactive_cands (c : Cand) (s : State) :
    (Claim.wentInactive c s).cands
      = s.cands.set c (Claim.lost (decide (Claim.GradingToCome s c)) s.cands[c]) := by
  have told : ∀ (p : Prop) [Decidable p] (d : Word16) (u : State),
      (if p then u else raise .cls (.candidate c) d u).cands = u.cands := by
    intro p _ d u
    split <;> rfl
  unfold Claim.wentInactive
  dsimp only
  split
  · rw [(evaluate_steers ..).cands, told]
    rfl
  · rw [told]
    rfl

/-- Without an evaluation an activity loss leaves the selection and the synthesizer alone (R107). -/
theorem wentInactive_unselected {c : Cand} {s : State} (h : s.sel.selection ≠ some c) :
    (Claim.wentInactive c s).sel = s.sel ∧ (Claim.wentInactive c s).synth = s.synth := by
  unfold Claim.wentInactive
  dsimp only
  rw [if_neg h]
  split <;> exact ⟨rfl, rfl⟩

theorem wentInactive_grades {c : Cand} {s : State} (active : (s.cands[c]).state.isActive = true) :
    Grades s (Claim.wentInactive c s) := by
  rw [← goInactive_active active]
  exact goInactive_grades ..

/-! ### The monitors of a trunk -/

/-- The runtime record of candidate c, the settings and the generator are as they were. -/
structure CandStands (c : Cand) (s t : State) : Prop where
  cand : t.cands[c] = s.cands[c]
  cfg : t.cfg = s.cfg
  gen : t.gen = s.gen

theorem CandStands.refl (c : Cand) (s : State) : CandStands c s s := ⟨rfl, rfl, rfl⟩

theorem CandStands.trans {c : Cand} {s t u : State} (h : CandStands c s t) (g : CandStands c t u) : CandStands c s u :=
  ⟨g.cand.trans h.cand, g.cfg.trans h.cfg, g.gen.trans h.gen⟩

theorem CandStands.gradingToCome {c : Cand} {s t : State} (h : CandStands c s t) :
    Claim.GradingToCome t c ↔ Claim.GradingToCome s c := by
  unfold Claim.GradingToCome Claim.Due
  rw [h.gen, h.cfg]

/-- One candidate's part of the telling of a trunk's monitors. -/
def tellMonitor (n : Trunk) (c : Cand) (s : State) : State :=
  if (s.cfg.cands[c]).source = .trunk n then goInactive c s else s

theorem tellMonitors_eq (n : Trunk) (s : State) :
    tellMonitors n s = (List.finRange 8).foldl (fun u c => tellMonitor n c u) s := rfl

theorem tellMonitor_hit {n : Trunk} {c : Cand} {s : State} (source : (s.cfg.cands[c]).source = .trunk n)
    (active : (s.cands[c]).state.isActive = true) : tellMonitor n c s = Claim.wentInactive c s := by
  rw [tellMonitor, if_pos source, goInactive_active active]

theorem tellMonitor_missed {n : Trunk} {c : Cand} {s : State}
    (miss : ¬ ((s.cfg.cands[c]).source = .trunk n ∧ (s.cands[c]).state.isActive = true)) : tellMonitor n c s = s := by
  unfold tellMonitor
  split
  · next source => exact goInactive_inactive fun active => miss ⟨source, active⟩
  · rfl

theorem tellMonitor_grades (n : Trunk) (c : Cand) (s : State) : Grades s (tellMonitor n c s) := by
  unfold tellMonitor
  split
  · exact goInactive_grades ..
  · exact Grades.refl s

/-- What telling one monitor leaves of its candidate's record (R78). -/
theorem tellMonitor_cands (n : Trunk) (c : Cand) (s : State) :
    (tellMonitor n c s).cands
      = if (s.cfg.cands[c]).source = .trunk n ∧ (s.cands[c]).state.isActive = true then
          s.cands.set c (Claim.lost (decide (Claim.GradingToCome s c)) s.cands[c])
        else s.cands := by
  split
  · next hit => rw [tellMonitor_hit hit.1 hit.2, wentInactive_cands]
  · next miss => rw [tellMonitor_missed miss]

theorem tellMonitor_other (n : Trunk) (c d : Cand) (h : c ≠ d) (s : State) : CandStands d s (tellMonitor n c s) := by
  have g := tellMonitor_grades n c s
  refine ⟨?_, g.cfg, g.gen⟩
  rw [tellMonitor_cands]
  split
  · exact setCand_other s c d _ h.symm
  · rfl

/-- Telling the monitors of a trunk changes exactly the candidates on it that are active (R17, R78). -/
theorem tellMonitors_cand (n : Trunk) (s : State) (c : Cand) :
    (tellMonitors n s).cands[c]
      = if (s.cfg.cands[c]).source = .trunk n ∧ (s.cands[c]).state.isActive = true then
          Claim.lost (decide (Claim.GradingToCome s c)) s.cands[c]
        else s.cands[c] := by
  obtain ⟨v, before, later⟩ := foldl_at (CandStands c) (CandStands.refl c) CandStands.trans
    (fun u d => tellMonitor n d u) c (List.finRange 8) (List.nodup_finRange 8) (List.mem_finRange c)
    (fun d _ hd u => tellMonitor_other n d c hd u) s
  have told : (tellMonitor n c v).cands[c]
      = if (v.cfg.cands[c]).source = .trunk n ∧ (v.cands[c]).state.isActive = true then
          Claim.lost (decide (Claim.GradingToCome v c)) v.cands[c]
        else v.cands[c] := by
    rw [tellMonitor_cands]
    split
    · exact setCand_same v c _
    · rfl
  have grading : decide (Claim.GradingToCome v c) = decide (Claim.GradingToCome s c) :=
    decide_eq_decide.mpr before.gradingToCome
  rw [tellMonitors_eq, later.cand, told, grading, before.cfg, before.cand]

/-- Telling the monitors one by one, by the records as they stand before the first. -/
theorem foldl_tellMonitor (n : Trunk) (s : State) (cs : List Cand) (nodup : cs.Nodup) (u : State)
    (stands : ∀ c ∈ cs, CandStands c s u) :
    cs.foldl (fun u c => tellMonitor n c u) u
      = cs.foldl (fun u c => if (s.cfg.cands[c]).source = .trunk n ∧ (s.cands[c]).state.isActive = true then
          Claim.wentInactive c u else u) u := by
  induction cs generalizing u with
  | nil => rfl
  | cons c cs ih =>
    obtain ⟨new, nodup⟩ := List.nodup_cons.mp nodup
    have now := stands c (List.mem_cons_self ..)
    have head : tellMonitor n c u
        = if (s.cfg.cands[c]).source = .trunk n ∧ (s.cands[c]).state.isActive = true then
            Claim.wentInactive c u else u := by
      rw [← now.cfg, ← now.cand]
      split
      · next hit => exact tellMonitor_hit hit.1 hit.2
      · next miss => exact tellMonitor_missed miss
    rw [List.foldl_cons, List.foldl_cons, ← head]
    refine ih nodup _ fun d hd => (stands d (List.mem_cons_of_mem _ hd)).trans (tellMonitor_other n c d ?_ u)
    rintro rfl
    exact new hd

/-- Settles O18: the candidates hit are told one by one, and each record moves at its own telling alone. -/
theorem monitorsAreToldOfAlignmentLoss : Obligations.MonitorsAreToldOfAlignmentLoss := by
  unfold Obligations.MonitorsAreToldOfAlignmentLoss
  intro n s
  dsimp only
  have grades := tellMonitors_grades n s
  have folded := foldl_tellMonitor n s (List.finRange 8) (List.nodup_finRange 8) s fun c _ => CandStands.refl c s
  refine ⟨folded, tellMonitors_cand n s, fun unhit => ?_, grades.2.1, grades.2.2, grades.1⟩
  rw [tellMonitors_eq, folded]
  refine foldl_keeps (fun u => u.sel = s.sel ∧ u.synth = s.synth) _ (List.finRange 8) s ⟨rfl, rfl⟩ ?_
  rintro u c ⟨sel, synth⟩
  split
  · next hit =>
    obtain ⟨hsel, hsynth⟩ := wentInactive_unselected (c := c) (s := u) fun h => unhit c (by rw [← sel]; exact h) hit
    exact ⟨hsel.trans sel, hsynth.trans synth⟩
  · exact ⟨sel, synth⟩

end Sys2Proof.Machine
end

section
/-! OBLIGATION. Which steps are due at an instant (R3, R40, R44, R51, R52, R75, R76, R121, R152, R160, R162). -/

namespace Sys2Proof.Machine

/-! ### Instants -/

theorem not_due_of_startDue {s : State} (h : s.startDue = false) : ¬ Claim.Due s := by
  rw [← startDue_iff, h]
  nofun

/-- The multiframe start of an instant: due, or just taken by the generator (R52). -/
theorem multiframeAt_iff (s : State) (e : Epoch) : s.multiframeAt = some e ↔
    (Claim.Due s ∧ s.gen.frameNumber = 15 ∧ e = s.gen.epoch + 1)
      ∨ (¬ Claim.Due s ∧ s.gen.tick = s.gen.frameStart ∧ s.gen.frameNumber = 0 ∧ e = s.gen.epoch) := by
  unfold State.multiframeAt
  by_cases due : Claim.Due s
  · rw [if_pos ((startDue_iff s).mpr due)]
    by_cases last : s.gen.frameNumber = 15
    · rw [if_pos last]
      constructor
      · intro h
        cases h
        exact .inl ⟨due, last, rfl⟩
      · rintro (⟨-, -, rfl⟩ | ⟨h, -⟩)
        · rfl
        · exact absurd due h
    · rw [if_neg last]
      refine iff_of_false nofun ?_
      rintro (⟨-, h, -⟩ | ⟨h, -⟩)
      · exact last h
      · exact h due
  · rw [if_neg fun h => due ((startDue_iff s).mp h)]
    by_cases taken : s.gen.tick = s.gen.frameStart ∧ s.gen.frameNumber = 0
    · rw [if_pos taken]
      constructor
      · intro h
        cases h
        exact .inr ⟨due, taken.1, taken.2, rfl⟩
      · rintro (⟨h, -⟩ | ⟨-, -, -, rfl⟩)
        · exact absurd h due
        · rfl
    · rw [if_neg taken]
      refine iff_of_false nofun ?_
      rintro (⟨h, -⟩ | ⟨-, h1, h2, -⟩)
      · exact due h
      · exact taken ⟨h1, h2⟩

theorem slipWindowDue_iff (s : State) (n : Trunk) (e : Epoch) : slipWindowDue s n = some e ↔
    s.multiframeAt = some e ∧ e.toNat % 4096 = 0 ∧ (s.stores[n]).windowFrom ≠ e := by
  unfold slipWindowDue
  cases s.multiframeAt with
  | none => exact iff_of_false nofun fun h => nomatch h.1
  | some d =>
    dsimp only
    constructor
    · intro h
      split at h
      · next p =>
        cases h
        exact ⟨rfl, p⟩
      · exact absurd h nofun
    · rintro ⟨hd, p⟩
      cases hd
      rw [if_pos p]

theorem commitDue_iff (s : State) (l : LinkId) : commitDue s = some l ↔
    ∃ e, s.multiframeAt = some e ∧ s.commit = some { link := l, start := e } := by
  unfold commitDue
  cases s.commit with
  | none => exact iff_of_false nofun fun ⟨_, _, h⟩ => nomatch h
  | some p =>
    dsimp only
    constructor
    · intro h
      split at h
      · next at_ =>
        cases h
        exact ⟨p.start, at_, rfl⟩
      · exact absurd h nofun
    · rintro ⟨e, at_, hp⟩
      cases hp
      exact if_pos at_

/-! ### What each test of a due step asks -/

theorem timerOver_iff (s : State) (start : Option Tick) (limit : Nat) : timerOver s start limit = true ↔
    ∃ b, start = some b ∧ limit ≤ (s.gen.tick - b).toNat := by
  unfold timerOver ticksFrom
  cases start <;> simp

theorem windowEndDue_iff (s : State) (c : Cand) :
    windowEndDue s c = true ↔ (s.cands[c]).state.isActive = true ∧ 512 ≤ (s.cands[c]).intervals := by
  unfold windowEndDue
  rw [Bool.and_eq_true, decide_eq_true_eq]
  rfl

theorem handedCapture_iff (k : Link) (o : Outstanding) (r : CaptureRecord) :
    handedCapture k = some (o, r) ↔ k.outstanding = some o ∧ ∃ n, o.work = .capture n (some r) := by
  unfold handedCapture
  constructor
  · intro h
    split at h
    · next o' ho =>
      split at h
      · next n r' hw =>
        cases h
        exact ⟨ho, n, hw⟩
      · exact absurd h nofun
      · exact absurd h nofun
    · exact absurd h nofun
  · rintro ⟨ho, n, hw⟩
    simp only [ho, hw]

theorem captureDue_iff (s : State) (l : LinkId) : captureDue s l = true ↔
    ∃ kind tag n r, (s.link l).outstanding = some { kind := kind, tag := tag, work := .capture n (some r) } := by
  unfold captureDue
  rw [Option.isSome_iff_exists]
  constructor
  · rintro ⟨⟨⟨kind, tag, work⟩, r⟩, h⟩
    obtain ⟨ho, n, rfl⟩ := (handedCapture_iff ..).mp h
    exact ⟨kind, tag, n, r, ho⟩
  · rintro ⟨kind, tag, n, r, h⟩
    exact ⟨_, (handedCapture_iff ..).mpr ⟨h, n, rfl⟩⟩

theorem timeoutDue_iff (s : State) : timeoutDue s = true ↔
    s.sel.timeouts ≠ [] ∨ s.synth.state = .acquire ∧ s.sel.selection ≠ none ∧ 1024 ≤ s.synth.acquireTimer := by
  unfold timeoutDue
  simp only [Bool.or_eq_true, Bool.not_eq_true', List.isEmpty_eq_false_iff, Bool.and_eq_true, beq_iff_eq,
    decide_eq_true_eq, and_assoc, Option.isSome_iff_ne_none]
  rfl

theorem waitEndDue_iff (s : State) (c : Cand) : waitEndDue s c = true ↔
    ∃ e n last, s.multiframeAt = some e ∧ (s.cands[c]).wait = some (.definite n last) ∧ n ≤ 1 ∧ last ≠ e := by
  unfold waitEndDue
  constructor
  · intro h
    split at h
    · next e n last he hw =>
      rw [Bool.and_eq_true, decide_eq_true_eq, bne_iff_ne] at h
      exact ⟨e, n, last, he, hw, h⟩
    · exact absurd h nofun
  · rintro ⟨e, n, last, he, hw, hn, hl⟩
    simp only [he, hw, Bool.and_eq_true, decide_eq_true_eq, bne_iff_ne]
    exact ⟨hn, hl⟩

/-! ### The list of due steps -/

theorem mem_commandsFor {α : Type} (xs : List α) (all : ∀ x, x ∈ xs) (p : α → Bool) (f : α → Instr) (i : Instr) :
    i ∈ commandsFor xs p f ↔ ∃ x, i = f x ∧ p x = true := by
  unfold commandsFor
  simp only [List.mem_map, List.mem_filter, all, true_and]
  exact ⟨fun ⟨x, hp, hx⟩ => ⟨x, hx.symm, hp⟩, fun ⟨x, hx, hp⟩ => ⟨x, hp, hx.symm⟩⟩

theorem mem_commandIf (p : Bool) (i j : Instr) : i ∈ commandIf p j ↔ i = j ∧ p = true := by
  unfold commandIf
  cases p <;> simp

theorem mem_bothLinks (l : LinkId) : l ∈ [LinkId.a, .b] := by cases l <;> simp

/-- The due steps, kind by kind. -/
theorem mem_dueCommands (s : State) (i : Instr) : i ∈ dueCommands s ↔
    (∃ c, i = .windowEnd c ∧ windowEndDue s c = true)
    ∨ (∃ l, i = .captureCompletion l ∧ captureDue s l = true)
    ∨ (i = .exchangeFrameStart (Config.freeOrder s.free 0) ∧ s.startDue = true)
    ∨ (∃ n, i = .slipWindowEnd n ∧ (slipWindowDue s n).isSome = true)
    ∨ (i = .commitApply (Config.freeOrder s.free 1) ∧ (commitDue s).isSome = true)
    ∨ (i = .acquireTimeout ∧ timeoutDue s = true)
    ∨ (∃ c, i = .waitEnd c ∧ waitEndDue s c = true)
    ∨ (∃ c, i = .activityTimerExpiry c ∧ activityDue s c = true)
    ∨ (∃ n, i = .lossOfSignalExpiry n ∧ losDue s n = true)
    ∨ ∃ l, i = .interOctetTimerExpiry l ∧ interOctetDue s l = true := by
  unfold dueCommands
  simp only [List.mem_append, mem_commandsFor _ List.mem_finRange, mem_commandsFor _ mem_bothLinks, mem_commandIf,
    or_assoc]

/-- Settles O3: each kind's test, and the list that they make. -/
theorem dueStepsOfAnInstant : Obligations.DueStepsOfAnInstant := by
  unfold Obligations.DueStepsOfAnInstant
  refine ⟨multiframeAt_iff, slipWindowDue_iff, commitDue_iff, fun s i => ?_⟩
  rw [mem_dueCommands]
  simp only [windowEndDue_iff, captureDue_iff, startDue_iff, Option.isSome_iff_exists, timeoutDue_iff, waitEndDue_iff,
    activityDue, losDue, interOctetDue, timerOver_iff, exists_and_left]
  rfl

end Sys2Proof.Machine
end

section
/-! OBLIGATION. RESET PART: the warm reset of every block (R19, R40, R49, R54, R86, R102, R127, R150, R164, R170, R172). -/

namespace Sys2Proof.Machine

/-! ### Both links reset -/

/-- No commit outlives the resets of both links (R163). -/
theorem commit_restartLinks (s : State) : (restartLink .b (restartLink .a s)).commit = none := by
  have first : (restartLink .a s).commit = if commitFrom s .a then none else s.commit := rfl
  have second : (restartLink .b (restartLink .a s)).commit
      = if commitFrom (restartLink .a s) .b then none else (restartLink .a s).commit := rfl
  rw [second]
  unfold commitFrom at first ⊢
  rw [first]
  cases s.commit with
  | none => rfl
  | some p =>
    obtain ⟨l, start⟩ := p
    cases l <;> rfl

/-- The resets of both links change the links, the commit and the wander windows alone (R163). -/
theorem restartLinks_shape (s : State) :
    restartLink .b (restartLink .a s)
      = { s with stores := (clearWanders .b (clearWanders .a s)).stores, commit := none
                 linkA := s.linkA.restart, linkB := s.linkB.restart } := by
  have commit := commit_restartLinks s
  unfold restartLink clearWanders State.setLink State.link at commit ⊢
  simp only at commit ⊢
  rw [commit]

theorem restartLinks_store (s : State) (n : Trunk) :
    (clearWanders .b (clearWanders .a s)).stores[n] = { s.stores[n] with wanderA := none, wanderB := none } := by
  rw [clearWanders_store, clearWanders_store]
  rfl

/-! ### The blocks of a warm reset -/

theorem warmBlocks_shape (s : State) :
    warmBlocks s = { s with framers := (warmBlocks s).framers, stores := (warmBlocks s).stores
                            cands := (warmBlocks s).cands, sel := Selector.reset, synth := (warmBlocks s).synth } := by
  unfold warmBlocks recomputeQl State.setSynth; rfl

theorem warmBlocks_framer (s : State) (n : Trunk) :
    (warmBlocks s).framers[n] = Framer.warm (s.cfg.trunks[n]).enabled s.gen.tick := by
  simp [warmBlocks, recomputeQl, State.setSynth]

theorem warmBlocks_store (s : State) (n : Trunk) : (warmBlocks s).stores[n] = s.stores[n].warm := by
  simp [warmBlocks, recomputeQl, State.setSynth]

theorem warmBlocks_cand (s : State) (c : Cand) :
    (warmBlocks s).cands[c] = Claim.renewed (s.cfg.cands[c]).enabled := by
  simp [warmBlocks, recomputeQl, State.setSynth, Runtime.restarted, Runtime.reset, Claim.renewed]

/-- The synthesizer after a warm reset: HOLDOVER on H, or FREERUN on F0 (R150). -/
theorem warmBlocks_synth (s : State) :
    (warmBlocks s).synth
      = (let x := if s.synth.history = 64 then s.synth.h else s.cfg.synth.f0
         { s.synth with
           state := if s.synth.history = 64 then .holdover else .freerun
           f := x, i := x, o := 0, buildOut := false, lockCount := 0, lossCount := 0, acquireTimer := 0
           timeoutCount := 0, last := none
           exchangeQl := if s.synth.history = 64 then s.cfg.synth.holdoverQl else s.cfg.synth.freerunQl }) := by
  unfold warmBlocks recomputeQl State.setSynth exchangeQlOf Synth.warm Synth.release Synth.clearCounters
    Synth.holdoverValid
  by_cases h : s.synth.history = 64
  · simp only [h, if_true]
    rfl
  · have invalid : (s.synth.history == 64) = false := beq_eq_false_iff_ne.mpr h
    simp only [h, invalid, if_false, Bool.false_eq_true]

/-! ### The whole reset -/

/-- The RESET event is the first of an empty queue under the default mask (R163, R169). -/
theorem restart_offer (k : Link) (epoch : Epoch) (detail : Word16) (l : LinkId) :
    k.restart.offer { kind := .reset, subject := .link l, epoch := epoch, detail := detail }
      = { k with
          state := .ready, outstanding := none, waiting := [], staging := [], overflow := false, mask := 0x3D
          capture := none
          queue := [{ kind := .reset, subject := .link l, epoch := epoch, detail := detail }] } := by
  have takes : k.restart.takes .reset = true := by
    change defaultMask.getLsbD 5 = true
    decide
  unfold Link.offer
  rw [if_pos takes]
  rfl

theorem handleReset_part (l : LinkId) (q : Request) (no : Status → State → State) (s : State) (h : q.body = [2]) :
    handleReset l q no s = handleResetPart l q s := by
  have notLink : ¬ (2 : Octet) = 1 := by decide
  rw [handleReset.eq_def, h]
  exact (if_neg notLink).trans (if_pos rfl)

/-- A RESET PART with a right check is the warm reset and its answer, whatever the state of its link (R151, R164). -/
theorem exec_resetPart {l : LinkId} {tag : Octet} {check : Word16} {s : State} (takes : Takes s)
    (right : check = checkFor 12 tag [2]) :
    exec (.resetPart l tag check) s = .next (Claim.answered l 12 tag .ok [] (warmReset l s)) := by
  have rc : Request.rightCheck { kind := 12, tag := tag, body := [2], check := check } = check := right.symm
  have handled : ∀ no, handleReset l { kind := 12, tag := tag, body := [2], check := check } no s
      = Claim.answered l 12 tag .ok [] (warmReset l s) := fun no =>
    (handleReset_part l _ no s rfl).trans (answer_eq ..)
  refine (taken_takes _ s takes).trans (congrArg _ ?_)
  unfold takeRequest
  rw [rc]
  cases (s.link l).state
  · exact (if_pos rfl).trans (handled fun why => answer l { kind := 12, tag := tag, body := [2], check := check } why [])
  · exact (if_pos ⟨rfl, rfl⟩).trans (handled _)
  · exact (if_pos ⟨rfl, rfl⟩).trans (handled _)

/-- The warm reset, field by field. -/
theorem warmReset_shape (l : LinkId) (s : State) :
    warmReset l s
      = (let v := warmBlocks s
         let cause := s.cause ||| warmBit l
         let e : Event := { kind := .reset, subject := .link l, epoch := s.gen.epoch, detail := cause.setWidth 16 }
         { s with framers := v.framers, stores := (clearWanders .b (clearWanders .a v)).stores, cands := v.cands
                  sel := Selector.reset, synth := v.synth, linkA := s.linkA.restart.offer e
                  linkB := s.linkB.restart.offer e, commit := none, cause := cause }) := by
  unfold warmReset
  rw [restartLinks_shape]
  rw [warmBlocks_shape]
  rfl

theorem warmReset_link (l m : LinkId) (s : State) :
    (warmReset l s).link m
      = (s.link m).restart.offer
          { kind := .reset, subject := .link l, epoch := s.gen.epoch, detail := (s.cause ||| warmBit l).setWidth 16 } := by
  rw [warmReset_shape]
  cases m <;> rfl

/-- Settles O55: the fields of the warm reset, one by one. -/
theorem resetOfThePart : Obligations.ResetOfThePart := by
  unfold Obligations.ResetOfThePart
  intro l tag check s takes right
  have shape := warmReset_shape l s
  dsimp only at shape
  have stores : (warmReset l s).stores = (clearWanders .b (clearWanders .a (warmBlocks s))).stores := by rw [shape]
  have framers : (warmReset l s).framers = (warmBlocks s).framers := by rw [shape]
  have cands : (warmReset l s).cands = (warmBlocks s).cands := by rw [shape]
  have sel : (warmReset l s).sel = Selector.reset := by rw [shape]
  have synth : (warmReset l s).synth = (warmBlocks s).synth := by rw [shape]
  have cause : (warmReset l s).cause = s.cause ||| warmBit l := by rw [shape]
  refine ⟨warmReset l s, exec_resetPart takes right, ?_, ?_, fun m => ?_, fun n => ⟨?_, ?_⟩, fun c => ⟨?_, ?_⟩,
    ?_, ?_, ?_, ?_, ?_⟩
  · rw [shape]
  · rw [cause]
    cases l <;> rfl
  · rw [warmReset_link, restart_offer, cause]
  · rw [stores, restartLinks_store, warmBlocks_store]
    rfl
  · rw [framers, warmBlocks_framer]
    rfl
  · rw [cands, warmBlocks_cand]
  · rw [sel]
    simp [Selector.reset]
  · rw [sel]
    rfl
  · rw [sel]
    rfl
  · rw [sel]
    rfl
  · rw [sel]
    rfl
  · rw [synth, warmBlocks_synth]

end Sys2Proof.Machine
end

section
/-! OBLIGATION. What each status item carries (R19, R35, R44, R46, R47, R67, R85, R126, R148, R165, R170). -/

namespace Sys2Proof.Machine

/-! ### Fields in the words of the claims -/

theorem ofNat_extract_low (w n : Nat) (h : 8 ≤ w) : (BitVec.ofNat w n).extractLsb' 0 8 = BitVec.ofNat 8 n := by
  apply BitVec.eq_of_toNat_eq
  simp only [BitVec.extractLsb'_toNat, BitVec.toNat_ofNat, Nat.shiftRight_zero]
  exact Nat.mod_mod_of_dvd _ (Nat.pow_dvd_pow 2 h)

/-- An octet of a wider number is its quotient as an octet. -/
theorem ofNat_extract (w k n : Nat) (h : k + 8 ≤ w) :
    (BitVec.ofNat w n).extractLsb' k 8 = BitVec.ofNat 8 (n / 2 ^ k) := by
  apply BitVec.eq_of_toNat_eq
  simp only [BitVec.extractLsb'_toNat, BitVec.toNat_ofNat, Nat.shiftRight_eq_div_pow]
  obtain ⟨d, rfl⟩ : ∃ d, w = k + d := ⟨w - k, by omega⟩
  rw [Nat.pow_add, Nat.mod_mul_right_div_self]
  exact Nat.mod_mod_of_dvd _ (Nat.pow_dvd_pow 2 (by omega))

theorem nat16_eq_two (n : Nat) : nat16 n = Claim.two n := by
  unfold nat16 be16 Claim.two
  rw [ofNat_extract 16 8 n (by omega), ofNat_extract 16 0 n (by omega)]
  simp

theorem be32_eq_four (n : Nat) : be32 (BitVec.ofNat 32 n) = Claim.four n := by
  unfold be32 Claim.four Claim.two
  rw [ofNat_extract 32 24 n (by omega), ofNat_extract 32 16 n (by omega), ofNat_extract 32 8 n (by omega),
    ofNat_extract 32 0 n (by omega)]
  simp [Nat.div_div_eq_div_mul]

theorem be16_toNat (w : Word16) : be16 w = Claim.two w.toNat := by
  rw [← nat16_eq_two, nat16, BitVec.ofNat_toNat, BitVec.setWidth_eq]

theorem be32_toNat (w : BitVec 32) : be32 w = Claim.four w.toNat := by
  rw [← be32_eq_four, BitVec.ofNat_toNat, BitVec.setWidth_eq]

theorem ofInt_eq_ofNat (w : Nat) (x : Int) : BitVec.ofInt w x = BitVec.ofNat w (x % (2 ^ w : Nat)).toNat := by
  apply BitVec.eq_of_toNat_eq
  rw [BitVec.toNat_ofInt, BitVec.toNat_ofNat, Nat.mod_eq_of_lt]
  have pos : ((2 ^ w : Nat) : Int) > 0 := by positivity
  have := Int.emod_lt_of_pos x pos
  have := Int.emod_nonneg x (ne_of_gt pos)
  omega

theorem int16_eq_signed (x : Int) : int16 x = Claim.signed x := by
  unfold int16 Claim.signed
  rw [ofInt_eq_ofNat, ← nat16_eq_two]
  rfl

theorem flagOctet_eq (b : Bool) : [flagOctet b] = Claim.bit b := by cases b <;> rfl
theorem candidateOctet_eq (x : Option Cand) : [candidateOctet x] = Claim.candNumber x := by cases x <;> rfl
theorem linkOctet_eq (l : LinkId) : [linkOctet l] = Claim.linkNumber l := by cases l <;> rfl

/-! ### The lockout octet -/

/-- The number whose bit i is f i, for i below k. -/
def bitSum (f : Nat → Bool) : Nat → Nat
  | 0 => 0
  | k + 1 => bitSum f k + weigh (f k) (2 ^ k)

theorem bitSum_lt (f : Nat → Bool) (k : Nat) : bitSum f k < 2 ^ k := by
  induction k with
  | zero => exact Nat.one_pos
  | succ k ih =>
    rw [bitSum, Nat.pow_succ]
    unfold weigh
    split <;> omega

theorem testBit_bitSum (f : Nat → Bool) (k j : Nat) (h : j < k) : (bitSum f k).testBit j = f j := by
  induction k with
  | zero => exact absurd h (Nat.not_lt_zero j)
  | succ k ih =>
    have small := bitSum_lt f k
    rw [bitSum, weigh, Nat.add_comm]
    by_cases hj : j = k
    · subst hj
      split
      · next on => rw [Nat.testBit_two_pow_add_eq, Nat.testBit_lt_two_pow small, on]; rfl
      · next off => rw [Nat.zero_add, Nat.testBit_lt_two_pow small, eq_false_of_ne_true off]
    · have lower : j < k := by omega
      split
      · rw [Nat.testBit_two_pow_add_gt lower, ih lower]
      · rw [Nat.zero_add, ih lower]

theorem lockoutOctet_eq (v : Vector Bool 8) :
    lockoutOctet v = octet (bitSum (fun i => if h : i < 8 then v[i] else false) 8) := rfl

theorem lockoutOctet_bit (v : Vector Bool 8) (c : Cand) : (lockoutOctet v).getLsbD c.val = v[c] := by
  rw [lockoutOctet_eq, octet, BitVec.getLsbD_ofNat, testBit_bitSum _ _ _ c.isLt, decide_eq_true c.isLt, Bool.true_and,
    dif_pos c.isLt]
  rfl

/-! ### The records -/

theorem sourceOctets_eq (x : Source) : sourceOctets x = (match x with
    | .none => [0, 0]
    | .trunk n => 1 :: Claim.one n.val
    | .station .s1 => [2, 0]
    | .station .s2 => [3, 0]) := by
  cases x with
  | none => rfl
  | trunk n => rfl
  | station i => cases i <;> rfl

theorem waitOctets_eq (x : Option Wait) : waitOctets x = (match x with
    | none => 0 :: Claim.four 0
    | some (.definite n _) => 1 :: Claim.four n
    | some .indefinite => 2 :: Claim.four 0) := by
  rcases x with - | (⟨n, last⟩ | -)
  · rfl
  · exact congrArg (1 :: ·) (be32_eq_four n)
  · rfl

theorem slipRecord_octets (r : SlipRecord) :
    r.octets = Claim.one r.kind.number ++ Claim.four r.epoch.toNat ++ Claim.one r.frame.val ++ Claim.one r.held := by
  rw [SlipRecord.octets, be32_toNat]
  rfl

theorem bit_eq (b : Bool) : Claim.bit b = [flagOctet b] := (flagOctet_eq b).symm
theorem candNumber_eq (x : Option Cand) : Claim.candNumber x = [candidateOctet x] := (candidateOctet_eq x).symm
theorem linkNumber_eq (l : LinkId) : Claim.linkNumber l = [linkOctet l] := (linkOctet_eq l).symm
theorem one_eq (n : Nat) : Claim.one n = [octet n] := rfl

/-- The expected number and the consecutive-errored count that TRUNK-STATUS shows for a framer state (R19). -/
def framePosition : FramerState → Octet × Octet
  | .aligned a => (octet a.expected.val, octet a.erroredRun)
  | .off | .noSignal | .hunt _ | .confirm _ _ => (0xFF, 0)

theorem trunkStatus_position (s : State) (t : Trunk) :
    trunkStatus s t
      = (let f := s.framers[t]
         [flagOctet (s.cfg.trunks[t]).enabled, octet f.state.number, flagOctet f.los, flagOctet f.ais, flagOctet f.rdi,
            octet f.ql.val, present f.sourceId] ++ be16 (f.sourceId.getD 0)
          ++ [(framePosition f.state).1, (framePosition f.state).2] ++ nat16 f.alignErrors) := rfl

theorem trunkStatus_eq (s : State) (t : Trunk) (expected run : Nat)
    (on : ∀ a, (s.framers[t]).state = .aligned a → expected = a.expected.val ∧ run = a.erroredRun)
    (off : (s.framers[t]).state.isAligned = false → expected = 255 ∧ run = 0) :
    trunkStatus s t
      = (let f := s.framers[t]
         Claim.bit (s.cfg.trunks[t]).enabled ++ Claim.one f.state.number ++ Claim.bit f.los ++ Claim.bit f.ais
           ++ Claim.bit f.rdi ++ Claim.one f.ql.val ++ Claim.bit f.sourceId.isSome
           ++ Claim.two (f.sourceId.getD 0).toNat ++ Claim.one expected ++ Claim.one run ++ Claim.two f.alignErrors) := by
  have position : framePosition (s.framers[t]).state = (octet expected, octet run) := by
    cases h : (s.framers[t]).state with
    | aligned a => obtain ⟨rfl, rfl⟩ := on a h; rfl
    | _ => obtain ⟨rfl, rfl⟩ := off (by rw [h]; rfl); rfl
  rw [trunkStatus_position]
  dsimp only
  rw [position, be16_toNat, nat16_eq_two]
  simp only [bit_eq, one_eq, present, List.cons_append, List.nil_append, List.append_assoc]

theorem storeStatus_eq (s : State) (t : Trunk) :
    storeStatus s t
      = (let x := s.stores[t]
         Claim.one x.state.number ++ Claim.one x.queue.length ++ Claim.one x.inProgress.length ++ Claim.bit x.last.isSome
           ++ Claim.bit x.transit.isSome ++ Claim.two (x.transit.getD 0) ++ Claim.two x.repeats ++ Claim.two x.deletes
           ++ Claim.one x.windowCount ++ Claim.bit x.slipExcess ++ Claim.bit x.slipRate.isSome
           ++ Claim.one (x.slipRate.getD 0)) := by
  simp only [storeStatus, nat16_eq_two, bit_eq, one_eq, present, List.cons_append, List.nil_append, List.append_assoc]

theorem historyStatus_eq (s : State) (t : Trunk) :
    historyStatus s t
      = Claim.one (s.stores[t]).history.length
        ++ (s.stores[t]).history.flatMap fun r =>
            Claim.one r.kind.number ++ Claim.four r.epoch.toNat ++ Claim.one r.frame.val ++ Claim.one r.held := by
  have octets : SlipRecord.octets = fun r => Claim.one r.kind.number ++ Claim.four r.epoch.toNat
      ++ Claim.one r.frame.val ++ Claim.one r.held := funext slipRecord_octets
  simp only [historyStatus, octets]
  rfl

theorem wanderStatus_eq (s : State) (l : LinkId) (t : Trunk) :
    wanderStatus s t l
      = match (match l with
          | .a => (s.stores[t]).wanderA
          | .b => (s.stores[t]).wanderB) with
        | none => [0, 0, 0, 0, 0]
        | some (lo, hi) => 1 :: Claim.two lo ++ Claim.two hi := by
  have window : ∀ w : Option (Nat × Nat),
      present w :: nat16 ((w.map Prod.fst).getD 0) ++ nat16 ((w.map Prod.snd).getD 0)
        = match w with
          | none => [0, 0, 0, 0, 0]
          | some (lo, hi) => 1 :: Claim.two lo ++ Claim.two hi := by
    rintro (- | ⟨lo, hi⟩)
    · rfl
    · simp only [nat16_eq_two]
      rfl
  cases l
  · exact window (s.stores[t]).wanderA
  · exact window (s.stores[t]).wanderB

theorem candidateStatus_eq (s : State) (c : Cand) :
    candidateStatus s c
      = (let k := s.cfg.cands[c]
         let r := s.cands[c]
         Claim.bit k.enabled ++ sourceOctets k.source
          ++ Claim.one r.state.number ++ Claim.two r.intervals ++ Claim.two r.hits ++ Claim.bit r.latest.isSome
          ++ Claim.four (r.latest.getD 0).toNat ++ Claim.bit r.deviation.isSome
          ++ Claim.four (r.deviation.getD 0 % 4294967296).toNat ++ Claim.two (r.lastHits.getD 0)
          ++ Claim.one r.cls.val ++ Claim.bit r.loop ++ waitOctets r.wait
          ++ Claim.bit r.hasQualified ++ Claim.bit r.lockFail) := by
  have deviation : be32 (BitVec.ofInt 32 ((s.cands[c]).deviation.getD 0))
      = Claim.four ((s.cands[c]).deviation.getD 0 % 4294967296).toNat := by
    rw [ofInt_eq_ofNat, be32_eq_four]
    rfl
  simp only [candidateStatus, deviation, nat16_eq_two, be32_toNat, bit_eq, one_eq, present, List.cons_append,
    List.nil_append, List.append_assoc]

theorem selectorStatus_eq (s : State) :
    selectorStatus s
      = Claim.candNumber s.sel.selection
        ++ (match s.sel.forced with
          | none => List.replicate 8 0
          | some f => 1 :: Claim.candNumber f.target ++ Claim.linkNumber f.link ++ Claim.four f.epoch.toNat
              ++ Claim.candNumber f.ret)
        ++ (match s.sel.manual with
          | none => List.replicate 8 0
          | some m => 1 :: Claim.candNumber (some m.target) ++ Claim.linkNumber m.link ++ Claim.four m.epoch.toNat
              ++ Claim.candNumber m.ret)
        ++ Claim.bit (s.sel.manual.isSome && s.sel.forced.isSome) ++ [lockoutOctet s.sel.lockout] := by
  unfold selectorStatus
  cases s.sel.forced <;> cases s.sel.manual <;>
    simp only [be32_toNat, bit_eq, candNumber_eq, linkNumber_eq, List.cons_append, List.nil_append, List.append_assoc]

theorem synthStatus_eq (s : State) :
    synthStatus s
      = (let y := s.synth
         let sample := y.last.getD { raw := 0, d := 0, e := 0 }
         Claim.one y.state.number ++ Claim.candNumber s.sel.selection ++ Claim.signed y.f ++ Claim.signed y.i
          ++ Claim.signed y.h ++ Claim.one y.history ++ Claim.bit (decide (y.history = 64)) ++ Claim.two y.o
          ++ Claim.bit y.buildOut ++ Claim.two y.r ++ Claim.one y.lockCount ++ Claim.one y.lossCount
          ++ Claim.two y.acquireTimer ++ Claim.two y.timeoutCount ++ Claim.bit y.last.isSome ++ Claim.two sample.raw
          ++ Claim.signed sample.d ++ Claim.one (sample.e % 256).toNat ++ Claim.one y.exchangeQl.val) := by
  have valid : s.synth.holdoverValid = decide (s.synth.history = 64) := rfl
  have error : ∀ e : Int, BitVec.ofInt 8 e = octet (e % 256).toNat := fun e => ofInt_eq_ofNat 8 e
  unfold synthStatus
  cases last : s.synth.last <;>
    simp only [last, valid, error, nat16_eq_two, int16_eq_signed, bit_eq, one_eq, candNumber_eq, present, Option.getD_none,
      Option.getD_some, List.cons_append, List.nil_append, List.append_assoc]

theorem timingStatus_eq (s : State) :
    timingStatus s
      = Claim.four s.gen.tick.toNat ++ Claim.four s.gen.frameStart.toNat ++ Claim.two s.gen.frameLength
        ++ Claim.one s.gen.frameNumber.val ++ Claim.four s.gen.epoch.toNat ++ Claim.one s.gen.frameQl.val
        ++ Claim.bit s.out.squelched1 ++ Claim.bit s.out.squelched2 := by
  simp only [timingStatus, nat16_eq_two, be32_toNat, bit_eq, one_eq, List.cons_append, List.nil_append,
    List.append_assoc]

/-- A commit of the other link is one that is not this link's. -/
theorem commitFrom_other (s : State) (l : LinkId) :
    commitFrom s (otherLink l) = (match s.commit with
      | none => false
      | some p => p.link != l) := by
  unfold commitFrom
  cases s.commit with
  | none => rfl
  | some p =>
    obtain ⟨m, start⟩ := p
    cases l <;> cases m <;> rfl

theorem linkStatus_eq (s : State) (l : LinkId) :
    linkStatus s l
      = (let k := s.link l
         Claim.linkNumber l ++ Claim.two k.staging.length ++ Claim.one k.queue.length ++ Claim.bit k.overflow ++ [k.mask]
          ++ Claim.bit (match s.commit with
            | none => false
            | some p => p.link != l) ++ Claim.bit k.capture.isSome) := by
  simp only [linkStatus, commitFrom_other, nat16_eq_two, bit_eq, one_eq, linkNumber_eq, present, List.cons_append,
    List.nil_append, List.append_assoc]

/-- The 38 octets of a capture (R44). -/
theorem captureOctets_eq (r : CaptureRecord) : r.octets = Claim.captureBody r := by
  rcases r with ⟨delivered, - | d⟩
  · cases delivered <;> simp only [CaptureRecord.octets, Option.getD_none, nat16_eq_two] <;> rfl
  · cases delivered <;> simp only [CaptureRecord.octets, Option.getD_some, nat16_eq_two] <;> rfl

/-- Settles O46: the records, one by one. -/
theorem statusRecordsCarryTheirFields : Obligations.StatusRecordsCarryTheirFields := by
  unfold Obligations.StatusRecordsCarryTheirFields
  refine ⟨⟨rfl, rfl, fun _ => rfl, fun _ _ => rfl, fun _ => rfl, rfl, rfl, rfl, rfl, rfl, rfl, rfl, rfl, rfl, rfl, rfl,
    rfl, rfl, rfl, rfl⟩, fun s l t => ⟨?_, storeStatus_eq s t, historyStatus_eq s t⟩, fun s l c => ?_, fun s l => ?_⟩
  · exact fun expected run on off => trunkStatus_eq s t expected run on off
  · refine (candidateStatus_eq s c).trans ?_
    dsimp only
    rw [sourceOctets_eq, waitOctets_eq] <;> rfl
  · refine ⟨selectorStatus_eq s, lockoutOctet_bit s.sel.lockout, synthStatus_eq s, timingStatus_eq s, rfl,
      linkStatus_eq s l, ?_, wanderStatus_eq s l⟩
    unfold statusBody captureRecordStatus
    cases (s.link l).capture with
    | none => rfl
    | some r => exact congrArg (1 :: ·) (captureOctets_eq r)

end Sys2Proof.Machine
end

section
/-! SUPPORT. What an apply leaves alone, and what its units do to one candidate (R80, R99, R101, R160). -/

namespace Sys2Proof.Machine

/-! ### The lockout set -/

@[simp] theorem enterSynth_sel (new : SynthState) (s : State) : (enterSynth new s).sel = s.sel := by
  unfold enterSynth
  dsimp only
  split <;> rfl

@[simp] theorem followSelection_sel (s : State) : (followSelection s).sel = s.sel := by
  unfold followSelection
  split
  · exact enterSynth_sel ..
  · unfold loseSelection
    split
    · rfl
    · rfl
    · exact enterSynth_sel ..
    · exact enterSynth_sel ..

theorem dropForcedIf_lockout (p : Cand → Bool) (cause : DropCause) (s : State) :
    (dropForcedIf p cause s).sel.lockout = s.sel.lockout := by
  unfold dropForcedIf
  split <;> rfl

theorem dropManualIf_lockout (p : Cand → Bool) (cause : DropCause) (s : State) :
    (dropManualIf p cause s).sel.lockout = s.sel.lockout := by
  unfold dropManualIf
  split <;> rfl

theorem select_lockout (reason : Nat) (subject : Subject) (new : Option Cand) (s : State) :
    (select reason subject new s).sel.lockout = s.sel.lockout := by
  unfold select
  dsimp only
  split
  · rfl
  · rw [followSelection_sel]
    rfl

/-- An evaluation locks no candidate out and lets none in (R106). -/
theorem evaluate_lockout (why : EvalCause) (ret : Option Cand) (s : State) :
    (evaluate why ret s).sel.lockout = s.sel.lockout := (select_lockout ..).trans (dropManualIf_lockout ..)

theorem setClass_sel (c : Cand) (new : Fin 8) (s : State) : (setClass c new s).sel = s.sel := by
  unfold setClass
  dsimp only
  split <;> rfl

theorem loseClass_sel (c : Cand) (s : State) : (loseClass c s).sel = s.sel := by
  unfold loseClass
  dsimp only
  split
  · rfl
  · exact setClass_sel ..

theorem goInactive_lockout (c : Cand) (s : State) : (goInactive c s).sel.lockout = s.sel.lockout := by
  unfold goInactive
  dsimp only
  split
  · unfold loseActivity
    dsimp only
    split
    · rw [evaluate_lockout, loseClass_sel]
      rfl
    · rw [loseClass_sel]
      rfl
  · rfl

theorem tellMonitors_lockout (n : Trunk) (s : State) : (tellMonitors n s).sel.lockout = s.sel.lockout := by
  rw [tellMonitors_eq]
  refine foldl_keeps (fun u => u.sel.lockout = s.sel.lockout) _ (List.finRange 8) s rfl fun u c h => ?_
  unfold tellMonitor
  split
  · exact (goInactive_lockout c u).trans h
  · exact h

/-! ### A disable in the words of the claims -/

theorem flush_eq_flushed (x : Store) : x.flush = Claim.flushed x := rfl
theorem detailOf_zero (n : Nat) : detailOf n FramerState.off.number = BitVec.ofNat 16 (256 * n) := rfl

/-- Leaving ALIGNED for OFF, where the framer is then written anew. -/
theorem leaveAligned_setFramer (n : Trunk) (s : State) (F : Framer) :
    (leaveAligned n .off none s).setFramer n F
      = (raise .trunkState (.trunk n) (BitVec.ofNat 16 (256 * s.framers[n].state.number))
          (tellMonitors n (s.setStore n (Claim.flushed s.stores[n])))).setFramer n F := by
  unfold leaveAligned raiseTrunkState
  dsimp only
  rw [raise_setFramer, setFramer_setFramer, raise_setFramer, flush_eq_flushed, detailOf_zero]

/-- A trunk's disable: framer, then store (R2, R48). -/
theorem disableTrunk_eq (n : Trunk) (s : State) :
    disableTrunk n s
      = (let f := s.framers[n]
         let x := s.stores[n]
         let told := if f.state.isAligned = true then tellMonitors n (s.setStore n (Claim.flushed x)) else s
         let F := { Framer.reset with alignErrors := f.alignErrors }
         let u := Claim.alarmEvent n f F
           ((raise .trunkState (.trunk n) (BitVec.ofNat 16 (256 * f.state.number)) told).setFramer n F)
         let v := u.setStore n (u.stores[n]).disabled
         if x.slipExcess = true then raise .slipExcess (.trunk n) 0 v else v) := by
  have left : ∀ F : Framer,
      (if s.framers[n].state.isAligned = true then leaveAligned n .off none s
        else raiseTrunkState n s.framers[n].state .off s).setFramer n F
      = (raise .trunkState (.trunk n) (BitVec.ofNat 16 (256 * s.framers[n].state.number))
          (if s.framers[n].state.isAligned = true then tellMonitors n (s.setStore n (Claim.flushed s.stores[n]))
            else s)).setFramer n F := by
    intro F
    split
    · exact leaveAligned_setFramer n s F
    · rfl
  have excess : (if s.framers[n].state.isAligned = true then tellMonitors n (s.setStore n (Claim.flushed s.stores[n]))
      else s).stores[n].slipExcess = s.stores[n].slipExcess := by
    by_cases h : s.framers[n].state.isAligned = true
    · rw [if_pos h, tellMonitors_stores, setStore_same]
      rfl
    · rw [if_neg h]
  unfold disableTrunk
  dsimp only
  rw [disableTrunk_left_alignErrors, left, raiseAlarmFrom_eq n _ _ _ (setFramer_same ..), alarmEvent_stores,
    State.setFramer_stores, raise_stores, excess]
  rfl

/-- A disable acts on candidates and selector only by telling the monitors of an ALIGNED framer's trunk (R17). -/
theorem disableTrunk_reference (n : Trunk) (s : State) :
    ((disableTrunk n s).cands = s.cands ∧ (disableTrunk n s).sel = s.sel)
      ∨ ((disableTrunk n s).cands = (tellMonitors n (s.setStore n (Claim.flushed s.stores[n]))).cands
        ∧ (disableTrunk n s).sel = (tellMonitors n (s.setStore n (Claim.flushed s.stores[n]))).sel) := by
  rw [disableTrunk_eq]
  dsimp only
  generalize he : (s.stores[n]).slipExcess = excess
  by_cases h : (s.framers[n]).state.isAligned = true
  · right
    rw [if_pos h]
    cases excess <;> simp
  · left
    rw [if_neg h]
    cases excess <;> simp

theorem applyTrunk_lockout (old : Settings) (n : Trunk) (s : State) :
    (applyTrunk old n s).sel.lockout = s.sel.lockout := by
  unfold applyTrunk
  split
  · rfl
  · split
    · rfl
    · rcases disableTrunk_reference n s with ⟨-, h⟩ | ⟨-, h⟩
      · rw [h]
      · rw [h, tellMonitors_lockout]
        rfl

/-! ### One candidate through the units of an apply -/

/-- A record that an activity loss has made INACTIVE, with the class whose CLASS event may still be owed (R78, R101). -/
def Lapsed (due : Prop) (r r' : Runtime) : Prop :=
  r.state.isActive = true ∧ r'.state.isActive = false
    ∧ (r'.lostCls = r.lostCls ∨ due ∧ r.cls ≠ 0 ∧ r'.lostCls = some r.cls)

/-- Candidate c has stood or lost its activity; the settings and the generator stand. -/
structure CandMoves (c : Cand) (s t : State) : Prop where
  cfg : t.cfg = s.cfg
  gen : t.gen = s.gen
  record : t.cands[c] = s.cands[c] ∨ Lapsed (Claim.Due s) s.cands[c] t.cands[c]

theorem CandMoves.refl (c : Cand) (s : State) : CandMoves c s s := ⟨rfl, rfl, .inl rfl⟩

theorem CandMoves.trans {c : Cand} {s t u : State} (h : CandMoves c s t) (g : CandMoves c t u) : CandMoves c s u := by
  refine ⟨g.cfg.trans h.cfg, g.gen.trans h.gen, ?_⟩
  have due : Claim.Due t ↔ Claim.Due s := by unfold Claim.Due; rw [h.gen]
  rcases h.record with stood | lapsed
  · rw [← stood, ← due]
    exact g.record
  · rcases g.record with stood | again
    · rw [stood]
      exact .inr lapsed
    · exact absurd again.1 (by rw [lapsed.2.1]; nofun)

/-- A candidate without an active monitor cannot lose activity again. -/
theorem CandMoves.inactive {c : Cand} {s t : State} (h : CandMoves c s t)
    (inactive : (s.cands[c]).state.isActive = false) : t.cands[c] = s.cands[c] := by
  rcases h.record with stood | lapsed
  · exact stood
  · exact absurd lapsed.1 (by rw [inactive]; nofun)

theorem lost_lapsed (s : State) (c : Cand) (active : (s.cands[c]).state.isActive = true) :
    Lapsed (Claim.Due s) s.cands[c] (Claim.lost (decide (Claim.GradingToCome s c)) s.cands[c]) := by
  refine ⟨active, rfl, ?_⟩
  by_cases owed : decide (Claim.GradingToCome s c) = true ∧ (s.cands[c]).cls ≠ 0
  · exact .inr ⟨(of_decide_eq_true owed.1).1, owed.2, if_pos owed⟩
  · exact .inl (if_neg owed)

/-- What a disable does to a candidate's record: an activity loss for an active monitor on the trunk (R17). -/
theorem disableTrunk_cand (n : Trunk) (c : Cand) (s : State) :
    (disableTrunk n s).cands[c] = s.cands[c]
      ∨ (s.cfg.cands[c]).source = .trunk n ∧ Lapsed (Claim.Due s) s.cands[c] (disableTrunk n s).cands[c] := by
  rcases disableTrunk_reference n s with ⟨same, -⟩ | ⟨told, -⟩
  · rw [same]
    exact .inl rfl
  · rw [told, tellMonitors_cand]
    by_cases hit : (s.cfg.cands[c]).source = .trunk n ∧ (s.cands[c]).state.isActive = true
    · exact .inr ⟨hit.1, (if_pos hit) ▸ lost_lapsed s c hit.2⟩
    · exact .inl (if_neg hit)

theorem applyTrunk_same {old : Settings} {n : Trunk} {s : State}
    (h : (old.trunks[n]).enabled = (s.cfg.trunks[n]).enabled) : applyTrunk old n s = s := if_pos h

/-- The unit of a trunk at an apply: nothing, a disable, or an enable, which touches no candidate. -/
theorem applyTrunk_cand (old : Settings) (n : Trunk) (c : Cand) (s : State) :
    (applyTrunk old n s).cands[c] = s.cands[c]
      ∨ (applyTrunk old n s).cands[c] = (disableTrunk n s).cands[c] := by
  unfold applyTrunk
  split
  · exact .inl rfl
  · split
    · exact .inl rfl
    · exact .inr rfl

theorem applyTrunk_candMoves (old : Settings) (n : Trunk) (c : Cand) (s : State) :
    CandMoves c s (applyTrunk old n s) := by
  have on := applyTrunk_onTrunk old n s
  refine ⟨on.cfg, on.gen, ?_⟩
  rcases applyTrunk_cand old n c s with stood | disabled
  · exact .inl stood
  · rw [disabled]
    exact (disableTrunk_cand n c s).imp_right And.right

/-- A trunk that is not a candidate's source, or is enabled as before, leaves the candidate alone. -/
theorem applyTrunk_candStands (old : Settings) (n : Trunk) (c : Cand) (s : State)
    (h : (s.cfg.cands[c]).source = .trunk n → (old.trunks[n]).enabled = (s.cfg.trunks[n]).enabled) :
    CandStands c s (applyTrunk old n s) := by
  have on := applyTrunk_onTrunk old n s
  refine ⟨?_, on.cfg, on.gen⟩
  rcases applyTrunk_cand old n c s with stood | disabled
  · exact stood
  · rcases disableTrunk_cand n c s with stood | ⟨source, -⟩
    · exact disabled.trans stood
    · rw [applyTrunk_same (h source)]

theorem tellLoss_eq (c : Cand) (s : State) : tellLoss c s = Claim.lossTold c s := by
  unfold tellLoss Claim.lossTold
  cases (s.cands[c]).lostCls <;> rfl

theorem restarted_eq_renewed (enabled : Bool) : Runtime.restarted enabled = Claim.renewed enabled := rfl

/-- The record of a candidate after its CLASS event has been told. -/
theorem lossTold_cand (c : Cand) (s : State) :
    (Claim.lossTold c s).cands[c] = { s.cands[c] with lostCls := none } := by
  unfold Claim.lossTold
  split
  · next h => rw [← h]
  · rw [raise_cands, setCand_same]

theorem lossTold_sel (c : Cand) (s : State) : (Claim.lossTold c s).sel = s.sel := by
  unfold Claim.lossTold
  split <;> rfl

theorem lossTold_grades (c : Cand) (s : State) : Grades s (Claim.lossTold c s) := by
  rw [← tellLoss_eq]
  exact tellLoss_grades c s

/-- A candidate whose settings ask for no reset stands (R80). -/
theorem applyCandidate_same {old : Settings} {c : Cand} {s : State}
    (enabled : (old.cands[c]).enabled = (s.cfg.cands[c]).enabled)
    (source : (old.cands[c]).source = (s.cfg.cands[c]).source ∨ (s.cfg.cands[c]).enabled = false) :
    applyCandidate old c s = s := if_pos ⟨enabled, source⟩

/-- A candidate that is reset at an apply: the event owed, the new record, MONITOR (R80, R99, R101). -/
theorem applyCandidate_reset {old : Settings} {c : Cand} {s : State}
    (h : (old.cands[c]).enabled ≠ (s.cfg.cands[c]).enabled
      ∨ (old.cands[c]).source ≠ (s.cfg.cands[c]).source ∧ (s.cfg.cands[c]).enabled = true) :
    applyCandidate old c s
      = (let b := s.cfg.cands[c]
         let u := if b.enabled = true then s else Claim.lossTold c s
         let R := { Claim.renewed b.enabled with lostCls := (u.cands[c]).lostCls }
         raise .monitor (.candidate c) (BitVec.ofNat 16 (256 * (s.cands[c]).state.number + R.state.number))
           (u.setCand c R)) := by
  have changed : ¬ ((old.cands[c]).enabled = (s.cfg.cands[c]).enabled
      ∧ ((old.cands[c]).source = (s.cfg.cands[c]).source ∨ (s.cfg.cands[c]).enabled = false)) := by
    rintro ⟨enabled, source⟩
    rcases h with h | ⟨hs, he⟩
    · exact h enabled
    · rcases source with source | off
      · exact hs source
      · rw [he] at off
        exact absurd off nofun
  unfold applyCandidate resetCandidate
  rw [if_neg changed]
  unfold restartCandidate
  dsimp only
  by_cases on : (s.cfg.cands[c]).enabled = true
  · simp only [if_pos on]
    rfl
  · simp only [if_neg on]
    rw [tellLoss_eq, lossTold_cand]
    rfl

end Sys2Proof.Machine
end

section
/-! SUPPORT. An apply taken apart: what its parts leave alone, and what its units leave of a trunk and of a candidate
(R2, R48, R80, R99, R101). -/

namespace Sys2Proof.Machine

/-! ### What every part of an apply leaves alone -/

/-- The generator, the configuration and its generation, the reset cause, the frames handed over, the lockouts and all of
a link but its queue are as they were. -/
structure ApplyLeaves (s t : State) : Prop where
  cfg : t.cfg = s.cfg
  gen : t.gen = s.gen
  generation : t.generation = s.generation
  cause : t.cause = s.cause
  handed : t.out.handed = s.out.handed
  lockout : t.sel.lockout = s.sel.lockout
  heard : ∀ l, Heard (s.link l) (t.link l)

theorem ApplyLeaves.refl (s : State) : ApplyLeaves s s := ⟨rfl, rfl, rfl, rfl, rfl, rfl, fun _ => Heard.refl _⟩

theorem ApplyLeaves.trans {s t u : State} (h : ApplyLeaves s t) (g : ApplyLeaves t u) : ApplyLeaves s u :=
  ⟨g.cfg.trans h.cfg, g.gen.trans h.gen, g.generation.trans h.generation, g.cause.trans h.cause,
    g.handed.trans h.handed, g.lockout.trans h.lockout, fun l => (h.heard l).trans (g.heard l)⟩

theorem Works.heard {s t : State} (h : Works s t) (l : LinkId) : Heard (s.link l) (t.link l) := by
  cases l
  · exact h.2.1
  · exact h.2.2

theorem Works.out {s t : State} (h : Works s t) : t.out = s.out := by rw [h.1]

theorem Works.applyLeaves {s t : State} (h : Works s t) (lockout : t.sel.lockout = s.sel.lockout) : ApplyLeaves s t where
  cfg := h.cfg
  gen := h.gen
  generation := by rw [h.1]
  cause := by rw [h.1]
  handed := by rw [h.out]
  lockout := lockout
  heard := h.heard

/-! ### The units -/

theorem applyTrunk_works (old : Settings) (n : Trunk) (s : State) : Works s (applyTrunk old n s) := by
  unfold applyTrunk
  split
  · exact Works.refl s
  · split
    · exact enableTrunk_works ..
    · exact disableTrunk_works ..

theorem applyUnit_works (old : Settings) (u : ApplyUnit) (s : State) : Works s (u.take old s) := by
  cases u with
  | trunk n => exact applyTrunk_works old n s
  | candidate c => exact (resetCandidate_grades ..).works

theorem applyCandidate_sel (old : Settings) (c : Cand) (s : State) : (applyCandidate old c s).sel = s.sel := by
  unfold applyCandidate resetCandidate
  split
  · rfl
  · refine Eq.trans (b := (if (s.cfg.cands[c]).enabled then s else tellLoss c s).sel) rfl ?_
    split
    · rfl
    · rw [tellLoss_eq, lossTold_sel]

theorem applyUnit_lockout (old : Settings) (u : ApplyUnit) (s : State) :
    (u.take old s).sel.lockout = s.sel.lockout := by
  cases u with
  | trunk n => exact applyTrunk_lockout old n s
  | candidate c => exact congrArg Selector.lockout (applyCandidate_sel old c s)

theorem applyUnder_works (ord : Nat) (old : Settings) (s : State) : Works s (applyUnder ord old s) := by
  have units := foldl_reach Works Works.refl Works.trans (fun s (u : ApplyUnit) => u.take old s)
    (fun s u => applyUnit_works old u s) (inOrder ord applyUnits) { s with cfg := s.cfg.withPolicy old }
  refine ⟨?_, units.2⟩
  unfold applyUnder
  rw [units.1]

theorem applyUnder_lockout (ord : Nat) (old : Settings) (s : State) :
    (applyUnder ord old s).sel.lockout = s.sel.lockout :=
  foldl_keeps (fun u => u.sel.lockout = s.sel.lockout) _ (inOrder ord applyUnits) { s with cfg := s.cfg.withPolicy old }
    rfl fun u x h => (applyUnit_lockout old x u).trans h

theorem applyUnder_leaves (ord : Nat) (old : Settings) (s : State) : ApplyLeaves s (applyUnder ord old s) :=
  (applyUnder_works ord old s).applyLeaves (applyUnder_lockout ord old s)

/-! ### A trunk after the units -/

section trunk
variable (ord : Nat) {old : Settings} {n : Trunk} {s : State}

theorem applyTrunk_enabled (was : (old.trunks[n]).enabled = false) (now : (s.cfg.trunks[n]).enabled = true) :
    applyTrunk old n s
      = enableTrunk n (decide (s.gen.epoch.toNat % 4096 = 0 ∧ (s.stores[n]).windowFrom = s.gen.epoch)) s := by
  unfold applyTrunk
  rw [if_neg (by rw [was, now]; nofun), if_pos now]

theorem applyTrunk_disabled (was : (old.trunks[n]).enabled = true) (now : (s.cfg.trunks[n]).enabled = false) :
    applyTrunk old n s = disableTrunk n s := by
  unfold applyTrunk
  rw [if_neg (by rw [was, now]; nofun), if_neg (by rw [now]; nofun)]

/-- Framer and store of a trunk after the units are those that its own unit leaves of them. -/
theorem applyUnder_trunk (old : Settings) (n : Trunk) (s : State) :
    ∃ v, TrunkStands n { s with cfg := s.cfg.withPolicy old } v
      ∧ (applyUnder ord old s).framers[n] = (applyTrunk old n v).framers[n]
      ∧ (applyUnder ord old s).stores[n] = (applyTrunk old n v).stores[n] := by
  obtain ⟨v, before, later⟩ := applyUnits_trunk old n (inOrder_perm ord applyUnits)
    { s with cfg := s.cfg.withPolicy old }
  exact ⟨v, before, later.framer, later.store⟩

theorem applyUnder_trunk_same (same : (old.trunks[n]).enabled = (s.cfg.trunks[n]).enabled) :
    (applyUnder ord old s).framers[n] = s.framers[n] ∧ (applyUnder ord old s).stores[n] = s.stores[n] := by
  obtain ⟨v, before, framer, store⟩ := applyUnder_trunk ord old n s
  rw [framer, store, applyTrunk_same (by rw [before.cfg]; exact same)]
  exact ⟨before.framer, before.store⟩

theorem applyUnder_trunk_enabled (was : (old.trunks[n]).enabled = false) (now : (s.cfg.trunks[n]).enabled = true) :
    (applyUnder ord old s).framers[n]
        = { Framer.reset with state := .noSignal, losFrom := some s.gen.tick, alignErrors := (s.framers[n]).alignErrors }
      ∧ (applyUnder ord old s).stores[n] = { s.stores[n] with
          windowComplete := decide (s.gen.epoch.toNat % 4096 = 0 ∧ (s.stores[n]).windowFrom = s.gen.epoch) } := by
  obtain ⟨v, before, framer, store⟩ := applyUnder_trunk ord old n s
  rw [framer, store, applyTrunk_enabled was (by rw [before.cfg]; exact now), enableTrunk_framer, enableTrunk_store,
    before.framer, before.store, before.gen]
  exact ⟨rfl, rfl⟩

theorem applyUnder_trunk_disabled (was : (old.trunks[n]).enabled = true) (now : (s.cfg.trunks[n]).enabled = false) :
    (applyUnder ord old s).framers[n] = { Framer.reset with alignErrors := (s.framers[n]).alignErrors }
      ∧ (applyUnder ord old s).stores[n]
          = (if (s.framers[n]).state.isAligned then (s.stores[n]).flush else s.stores[n]).disabled := by
  obtain ⟨v, before, framer, store⟩ := applyUnder_trunk ord old n s
  rw [framer, store, applyTrunk_disabled was (by rw [before.cfg]; exact now), disableTrunk_framer, disableTrunk_store,
    before.framer, before.store]
  exact ⟨rfl, rfl⟩

end trunk

/-! ### A candidate after the units -/

/-- The record that a reset at an apply leaves (R80, R99, R101). -/
theorem applyCandidate_cand {old : Settings} {c : Cand} {s : State}
    (h : (old.cands[c]).enabled ≠ (s.cfg.cands[c]).enabled
      ∨ (old.cands[c]).source ≠ (s.cfg.cands[c]).source ∧ (s.cfg.cands[c]).enabled = true) :
    (applyCandidate old c s).cands[c] = { Claim.renewed (s.cfg.cands[c]).enabled with
      lostCls := if (s.cfg.cands[c]).enabled = true then (s.cands[c]).lostCls else none } := by
  rw [applyCandidate_reset h]
  dsimp only
  rw [raise_cands, setCand_same]
  by_cases on : (s.cfg.cands[c]).enabled = true
  · simp only [if_pos on]
  · simp only [if_neg on]
    rw [lossTold_cand]

theorem restartCandidate_other (enabled : Bool) {c d : Cand} (h : d ≠ c) (s : State) :
    (restartCandidate enabled c s).cands[d] = s.cands[d] := setCand_other _ _ _ _ h

theorem lossTold_other {c d : Cand} (h : d ≠ c) (s : State) : (Claim.lossTold c s).cands[d] = s.cands[d] := by
  unfold Claim.lossTold
  split
  · rfl
  · rw [raise_cands, setCand_other _ _ _ _ h]

/-- The unit of a candidate leaves every other one alone. -/
theorem applyCandidate_other (old : Settings) {c d : Cand} (h : d ≠ c) (s : State) :
    CandStands d s (applyCandidate old c s) := by
  have grades : Grades s (applyCandidate old c s) := resetCandidate_grades ..
  refine ⟨?_, grades.cfg, grades.gen⟩
  unfold applyCandidate resetCandidate
  split
  · rfl
  · refine (restartCandidate_other _ h _).trans ?_
    rw [tellLoss_eq]
    by_cases on : (s.cfg.cands[c]).enabled = true
    · rw [if_pos on]
    · rw [if_neg on, lossTold_other h]

theorem CandStands.moves {c : Cand} {s t : State} (h : CandStands c s t) : CandMoves c s t := ⟨h.cfg, h.gen, .inl h.cand⟩

theorem applyUnit_candMoves (old : Settings) (c : Cand) (u : ApplyUnit) (other : u ≠ .candidate c) (s : State) :
    CandMoves c s (u.take old s) := by
  cases u with
  | trunk n => exact applyTrunk_candMoves old n c s
  | candidate d => exact (applyCandidate_other old (fun h => other (by rw [h])) s).moves

section candidate
variable (ord : Nat) {old : Settings} {c : Cand} {s : State}

/-- A candidate that an apply disables, enables or gives a new source (R80); a CLASS event that an activity loss of the
same apply owes is still to come for one that is enabled (R101). -/
theorem applyUnder_cand_reset (changed : (old.cands[c]).enabled ≠ (s.cfg.cands[c]).enabled
      ∨ (old.cands[c]).source ≠ (s.cfg.cands[c]).source ∧ (s.cfg.cands[c]).enabled = true) :
    ∃ owed, (applyUnder ord old s).cands[c] = { Claim.renewed (s.cfg.cands[c]).enabled with
        lostCls := if (s.cfg.cands[c]).enabled = true then owed else none }
      ∧ (owed = (s.cands[c]).lostCls ∨ Claim.Due s ∧ (s.cands[c]).cls ≠ 0 ∧ owed = some (s.cands[c]).cls) := by
  have order := inOrder_perm ord applyUnits
  obtain ⟨v, before, later⟩ := foldl_at (CandMoves c) (CandMoves.refl c) CandMoves.trans
    (fun s (u : ApplyUnit) => u.take old s) (.candidate c) (inOrder ord applyUnits) (orderedUnits_nodup order)
    (mem_orderedUnits order _) (fun u _ other s => applyUnit_candMoves old c u other s)
    { s with cfg := s.cfg.withPolicy old }
  have enabled : (v.cfg.cands[c]).enabled = (s.cfg.cands[c]).enabled := by
    rw [before.cfg]
    exact Settings.withPolicy_enabled ..
  have source : (v.cfg.cands[c]).source = (s.cfg.cands[c]).source := by
    rw [before.cfg]
    exact Settings.withPolicy_source ..
  have own := applyCandidate_cand (old := old) (c := c) (s := v) (by rw [enabled, source]; exact changed)
  rw [enabled] at own
  have final := later.inactive (own ▸ by cases (s.cfg.cands[c]).enabled <;> rfl)
  refine ⟨(v.cands[c]).lostCls, final.trans own, ?_⟩
  rcases before.record with stood | ⟨-, -, owed⟩
  · exact .inl (by rw [stood])
  · exact owed

/-- A candidate whose settings and whose source's enable are as before (R80). -/
theorem applyUnder_cand_same (enabled : (old.cands[c]).enabled = (s.cfg.cands[c]).enabled)
    (source : (old.cands[c]).source = (s.cfg.cands[c]).source)
    (trunks : ∀ n : Trunk, (s.cfg.cands[c]).source = .trunk n →
      (old.trunks[n]).enabled = (s.cfg.trunks[n]).enabled) :
    (applyUnder ord old s).cands[c] = s.cands[c] := by
  let start : State := { s with cfg := s.cfg.withPolicy old }
  suffices stands : CandStands c start ((inOrder ord applyUnits).foldl (fun s u => u.take old s) start) from stands.cand
  refine foldl_keeps (fun u => CandStands c start u) _ _ start (.refl c start) fun v u h => h.trans ?_
  have cands : ∀ d : Cand, (v.cfg.cands[d]).enabled = (s.cfg.cands[d]).enabled
      ∧ (v.cfg.cands[d]).source = (s.cfg.cands[d]).source := by
    intro d
    rw [h.cfg]
    exact ⟨Settings.withPolicy_enabled .., Settings.withPolicy_source ..⟩
  cases u with
  | trunk n =>
    refine applyTrunk_candStands old n c v fun on => ?_
    rw [(cands c).2] at on
    rw [h.cfg]
    exact trunks n on
  | candidate d =>
    by_cases own : c = d
    · subst own
      have same : applyCandidate old c v = v :=
        applyCandidate_same (by rw [(cands c).1, enabled]) (.inl (by rw [(cands c).2, source]))
      change CandStands c v (applyCandidate old c v)
      rw [same]
      exact .refl c v
    · exact applyCandidate_other old own v

end candidate

end Sys2Proof.Machine
end

section
/-! SUPPORT. An apply after its units, and the apply as its blocks and its end (R60, R124, R144, R160). -/

namespace Sys2Proof.Machine

/-! ### After the units: the lanes, the synthesizer, the selector -/

/-- Plane A's part of an apply (R60). -/
theorem applyLanes_a (old : Settings) (s : State) : applyLanes old .a s = { s with out := { s.out with
    lanesA := if old.lanesA = s.cfg.lanesA ∧ old.patternA = s.cfg.patternA then s.out.lanesA else planeLanes s .a } } := by
  unfold applyLanes
  by_cases same : old.lanesA = s.cfg.lanesA ∧ old.patternA = s.cfg.patternA
  · rw [if_pos same]
    exact if_pos same
  · rw [if_neg same]
    exact if_neg same

/-- Plane B's part of an apply (R60). -/
theorem applyLanes_b (old : Settings) (s : State) : applyLanes old .b s = { s with out := { s.out with
    lanesB := if old.lanesB = s.cfg.lanesB ∧ old.patternB = s.cfg.patternB then s.out.lanesB else planeLanes s .b } } := by
  unfold applyLanes
  by_cases same : old.lanesB = s.cfg.lanesB ∧ old.patternB = s.cfg.patternB
  · rw [if_pos same]
    exact if_pos same
  · rw [if_neg same]
    exact if_neg same

theorem applySynth_sel (old : Settings) (s : State) : (applySynth old s).sel = s.sel := by
  unfold applySynth
  rw [show ∀ u : State, (recomputeQl u).sel = u.sel from fun _ => rfl]
  split <;> rfl

theorem applySelector_lockout (l : LinkId) (s : State) : (applySelector l s).sel.lockout = s.sel.lockout :=
  (evaluate_lockout ..).trans ((dropManualIf_lockout ..).trans (dropForcedIf_lockout ..))

/-- The synthesizer's and the selector's parts of an apply. -/
theorem applyRest_steers (old : Settings) (l : LinkId) (s : State) : Steers s (applySelector l (applySynth old s)) :=
  (applySynth_steers old s).trans (applySelector_steers l _)

theorem applyRest_leaves (old : Settings) (l : LinkId) (s : State) :
    ApplyLeaves s (applySelector l (applySynth old s)) :=
  (applyRest_steers old l s).works.applyLeaves ((applySelector_lockout ..).trans (by rw [applySynth_sel]))

theorem planeLanes_congr {s t : State} (p : Plane) (cfg : t.cfg = s.cfg) (handed : t.out.handed = s.out.handed)
    (number : t.gen.frameNumber = s.gen.frameNumber) (ql : t.gen.frameQl = s.gen.frameQl) :
    planeLanes t p = planeLanes s p := by
  unfold planeLanes
  rw [cfg, handed, number, ql]

/-- The lane frames of an apply after a frame start that the plane ports have taken (R60). -/
def bothLanes (old : Settings) (s : State) : State := applyLanes old .b (applyLanes old .a s)

/-- Each plane fixes its lane frames anew where its map or pattern changed (R60). -/
theorem bothLanes_eq (old : Settings) (s : State) : bothLanes old s = { s with out := { s.out with
    lanesA := if old.lanesA = s.cfg.lanesA ∧ old.patternA = s.cfg.patternA then s.out.lanesA else planeLanes s .a
    lanesB := if old.lanesB = s.cfg.lanesB ∧ old.patternB = s.cfg.patternB then s.out.lanesB else planeLanes s .b } } := by
  have lanesB : planeLanes (applyLanes old .a s) .b = planeLanes s .b := by
    rw [applyLanes_a]
    exact planeLanes_congr .b rfl rfl rfl rfl
  unfold bothLanes
  rw [applyLanes_b, lanesB, applyLanes_a]

theorem bothLanes_leaves (old : Settings) (s : State) : ApplyLeaves s (bothLanes old s) := by
  rw [bothLanes_eq]
  exact ⟨rfl, rfl, rfl, rfl, rfl, rfl, fun l => by cases l <;> exact Heard.refl _⟩

/-! ### The blocks of an apply -/

theorem applyBlocks_eq (ord : Nat) (old : Settings) (started : Bool) (l : LinkId) (s : State) :
    applyBlocks ord old started l s
      = applySelector l (applySynth old (if started = true then bothLanes old (applyUnder ord old s)
          else applyUnder ord old s)) := rfl

section blocks
variable (ord : Nat) (old : Settings) (started : Bool) (l : LinkId) (s : State)

theorem applyBlocks_leaves : ApplyLeaves s (applyBlocks ord old started l s) := by
  rw [applyBlocks_eq]
  refine (applyUnder_leaves ord old s).trans (ApplyLeaves.trans ?_ (applyRest_leaves ..))
  split
  · exact bothLanes_leaves ..
  · exact ApplyLeaves.refl _

/-- After the units no block acts on a framer, a store or a candidate. -/
theorem applyBlocks_units :
    (applyBlocks ord old started l s).framers = (applyUnder ord old s).framers
      ∧ (applyBlocks ord old started l s).stores = (applyUnder ord old s).stores
      ∧ (applyBlocks ord old started l s).cands = (applyUnder ord old s).cands := by
  rw [applyBlocks_eq, (applyRest_steers ..).1]
  split
  · rw [bothLanes_eq]
    exact ⟨rfl, rfl, rfl⟩
  · exact ⟨rfl, rfl, rfl⟩

/-- The lane frames once the plane ports have taken this frame start (R60). -/
theorem applyBlocks_lanes :
    (applyBlocks ord old true l s).out.lanesA
        = (if old.lanesA = s.cfg.lanesA ∧ old.patternA = s.cfg.patternA then s.out.lanesA else planeLanes s .a)
      ∧ (applyBlocks ord old true l s).out.lanesB
        = (if old.lanesB = s.cfg.lanesB ∧ old.patternB = s.cfg.patternB then s.out.lanesB else planeLanes s .b) := by
  have units := applyUnder_leaves ord old s
  have lanes := fun p => planeLanes_congr p units.cfg units.handed (by rw [units.gen]) (by rw [units.gen])
  rw [applyBlocks_eq, (applyRest_steers ..).works.out, if_pos rfl, bothLanes_eq]
  dsimp only
  rw [lanes, lanes, units.cfg, (applyUnder_works ord old s).out]
  exact ⟨rfl, rfl⟩

end blocks

/-! ### An apply as its blocks and its end -/

/-- The new configuration, under the epoch that the multiframe start begins (R160, R166). -/
def installed (l : LinkId) (e : Epoch) (s : State) : State := installConfig l { s with gen := { s.gen with epoch := e } }

/-- The state at the end of an apply's blocks, with the generator as it was. -/
def blocksDone (ord : Nat) (l : LinkId) (e : Epoch) (s : State) : State :=
  { applyBlocks ord s.cfg (!s.startDue) l (installed l e s) with gen := s.gen }

theorem applyCommit_due {s : State} {l : LinkId} {e : Epoch} (ord : Nat) (due : commitDue s = some l)
    (start : s.multiframeAt = some e) : applyCommit ord s = finishCommit l (blocksDone ord l e s) := by
  have gen : (applyBlocks ord s.cfg (!s.startDue) l (installed l e s)).gen = { s.gen with epoch := e } :=
    (applyBlocks_leaves ..).gen
  have under : atEpoch e (fun u => applyBlocks ord s.cfg (!s.startDue) l (installConfig l u)) s
      = { applyBlocks ord s.cfg (!s.startDue) l (installed l e s) with
          gen := { (applyBlocks ord s.cfg (!s.startDue) l (installed l e s)).gen with epoch := s.gen.epoch } } := rfl
  unfold applyCommit blocksDone
  rw [due, start]
  refine congrArg (finishCommit l) (under.trans ?_)
  rw [gen]

/-- The committing link at the end of an apply, before its completion response. -/
def emptied (l : LinkId) (s : State) : State :=
  ({ s with commit := none, applied := true } : State).setLink l { s.link l with staging := [] }

theorem finishCommit_outstanding {l : LinkId} {s : State} {o : Outstanding} (h : (s.link l).outstanding = some o) :
    finishCommit l s
      = (emptied l s).setLink l { Claim.sent ((emptied l s).link l) (Claim.reply (emptied l s) l o.kind o.tag .ok [])
          with state := .serving, outstanding := none } := by
  have start : ({ s.setLink l { s.link l with staging := [] } with commit := none, applied := true } : State)
      = emptied l s := by cases l <;> rfl
  have same : ((emptied l s).link l).outstanding = some o := by
    unfold emptied
    rw [State.link_setLink]
    exact h
  unfold finishCommit
  dsimp only
  rw [start, same]
  unfold complete
  dsimp only
  rw [makeResponse_eq, send_eq_sent]

theorem send_staging (k : Link) (r : Response) : (k.send r).staging = k.staging := by
  unfold Link.send
  split <;> rfl

/-- The end of an apply touches the commit and the committing link, whose staging area it empties (R160). -/
theorem finishCommit_shape (l : LinkId) (s : State) : ∃ k : Link, k.staging = []
    ∧ finishCommit l s = ({ s with commit := none, applied := true } : State).setLink l k := by
  have start : ({ s.setLink l { s.link l with staging := [] } with commit := none, applied := true } : State)
      = emptied l s := by cases l <;> rfl
  unfold finishCommit
  dsimp only
  rw [start]
  split
  · refine ⟨_, ?_, State.setLink_setLink ..⟩
    refine (send_staging ..).trans ?_
    unfold emptied
    rw [State.link_setLink]
  · exact ⟨_, rfl, rfl⟩

end Sys2Proof.Machine
end

section
/-! OBLIGATIONS. O51: what an apply leaves of the state (R2, R41, R48, R60, R80, R101, R154, R160). -/

namespace Sys2Proof.Machine

/-- The state after an apply that is due. -/
def applyDone (ord : Nat) (l : LinkId) (e : Epoch) (s : State) : State := finishCommit l (blocksDone ord l e s)

theorem exec_commitApply {s : State} (ord : Nat) (takes : Takes s) :
    exec (.commitApply ord) s = .next (applyCommit ord s) := taken_takes _ s takes

theorem exec_commitApply_due {s : State} {l : LinkId} {e : Epoch} (ord : Nat) (takes : Takes s)
    (due : commitDue s = some l) (start : s.multiframeAt = some e) :
    exec (.commitApply ord) s = .next (applyDone ord l e s) := by
  rw [exec_commitApply ord takes, applyCommit_due ord due start]
  rfl

section done
variable (ord : Nat) (l : LinkId) (e : Epoch) (s : State)

/-- An apply leaves what its blocks leave, but for the commit and the committing link. -/
theorem applyDone_shape : ∃ k : Link, k.staging = [] ∧ applyDone ord l e s
    = ({ blocksDone ord l e s with commit := none, applied := true } : State).setLink l k := finishCommit_shape ..

theorem installed_heard (m : LinkId) : Heard (s.link m) ((installed l e s).link m) := by
  have link : (installed l e s).link m = (s.link m).offer
      { kind := .configCommitted, subject := .link l, epoch := e, detail := s.generation + 1 } := by
    cases m <;> rfl
  rw [link]
  exact offer_heard ..

theorem blocksDone_link (m : LinkId) : (blocksDone ord l e s).link m
    = (applyBlocks ord s.cfg (!s.startDue) l (installed l e s)).link m := by cases m <;> rfl

theorem blocksDone_heard (m : LinkId) : Heard (s.link m) ((blocksDone ord l e s).link m) := by
  rw [blocksDone_link]
  exact (installed_heard l e s m).trans ((applyBlocks_leaves ..).heard m)

theorem blocksDone_cfg : (blocksDone ord l e s).cfg = (s.link l).staging.foldl Settings.put s.cfg :=
  (applyBlocks_leaves ord s.cfg (!s.startDue) l (installed l e s)).cfg

theorem blocksDone_generation : (blocksDone ord l e s).generation = s.generation + 1 :=
  (applyBlocks_leaves ord s.cfg (!s.startDue) l (installed l e s)).generation

theorem applyDone_cfg : (applyDone ord l e s).cfg = (installed l e s).cfg := by
  obtain ⟨k, -, shape⟩ := applyDone_shape ord l e s
  rw [shape, State.setLink_cfg]
  exact blocksDone_cfg ord l e s

/-- The parts of the state that an apply leaves alone, and those that it sets for certain (R160). -/
theorem applyDone_leaves :
    let t := applyDone ord l e s
    t.cfg = (s.link l).staging.foldl Settings.put s.cfg ∧ t.generation = s.generation + 1 ∧ t.commit = none
      ∧ (t.link l).staging = [] ∧ (∀ m, m ≠ l → Heard (s.link m) (t.link m))
      ∧ t.applied = true ∧ t.gen = s.gen ∧ t.cause = s.cause ∧ t.out.handed = s.out.handed
      ∧ t.sel.lockout = s.sel.lockout := by
  have blocks := applyBlocks_leaves ord s.cfg (!s.startDue) l (installed l e s)
  obtain ⟨k, staging, shape⟩ := applyDone_shape ord l e s
  dsimp only
  rw [shape]
  refine ⟨?_, ?_, ?_, ?_, ?_, ?_, ?_, ?_, ?_, ?_⟩
  · exact (State.setLink_cfg ..).trans (blocksDone_cfg ord l e s)
  · exact (State.setLink_generation ..).trans (blocksDone_generation ord l e s)
  · exact State.setLink_commit ..
  · rw [State.link_setLink, staging]
  · intro m other
    rw [State.link_setLink_other _ _ _ _ other]
    exact blocksDone_heard ord l e s m
  · exact State.setLink_applied ..
  · exact State.setLink_gen ..
  · exact (State.setLink_cause ..).trans blocks.cause
  · exact (congrArg Outputs.handed (State.setLink_out ..)).trans blocks.handed
  · exact (congrArg Selector.lockout (State.setLink_sel ..)).trans blocks.lockout

/-! ### The completion response -/

theorem sent_heard {k k' : Link} (h : Heard k k') (r : Response) :
    (Claim.sent k' r).sending = (Claim.sent k r).sending ∧ (Claim.sent k' r).waiting = (Claim.sent k r).waiting := by
  obtain ⟨more, full, rfl⟩ := h
  unfold Claim.sent
  split <;> exact ⟨rfl, rfl⟩

theorem sent_staging (k : Link) (staged : List ItemValue) (r : Response) :
    (Claim.sent { k with staging := staged } r).sending = (Claim.sent k r).sending
      ∧ (Claim.sent { k with staging := staged } r).waiting = (Claim.sent k r).waiting := by
  unfold Claim.sent
  split <;> exact ⟨rfl, rfl⟩

/-- A link that waits for the commit is answered OK with the new generation (R151, R154, R160). -/
theorem applyDone_response (kind tag : Octet) (w : Work)
    (waits : (s.link l).outstanding = some { kind := kind, tag := tag, work := w }) :
    let t := applyDone ord l e s
    (t.link l).state = .serving ∧ (t.link l).outstanding = none
      ∧ ∃ r : Response, r.kind = kind ||| 0x80 ∧ r.tag = tag ∧ r.status = .ok ∧ r.body = []
          ∧ r.generation = s.generation + 1
          ∧ (t.link l).sending = (Claim.sent (s.link l) r).sending
          ∧ (t.link l).waiting = (Claim.sent (s.link l) r).waiting := by
  have heard := blocksDone_heard ord l e s l
  have generation := blocksDone_generation ord l e s
  unfold applyDone
  generalize blocksDone ord l e s = b at heard generation ⊢
  have outstanding : (b.link l).outstanding = some { kind := kind, tag := tag, work := w } := by
    obtain ⟨more, full, same⟩ := heard
    rw [same]
    exact waits
  have start : (emptied l b).link l = { b.link l with staging := [] } := State.link_setLink ..
  rw [finishCommit_outstanding outstanding]
  dsimp only
  rw [State.link_setLink, start]
  refine ⟨rfl, rfl, Claim.reply (emptied l b) l kind tag .ok [], rfl, rfl, rfl, rfl, ?_, ?_, ?_⟩
  · exact (State.setLink_generation ..).trans generation
  · exact (sent_staging ..).1.trans (sent_heard heard _).1
  · exact (sent_staging ..).2.trans (sent_heard heard _).2

/-! ### The trunks and the candidates -/

/-- Framers, stores and candidates are as the units leave them. -/
theorem applyDone_units :
    (applyDone ord l e s).framers = (applyUnder ord s.cfg (installed l e s)).framers
      ∧ (applyDone ord l e s).stores = (applyUnder ord s.cfg (installed l e s)).stores
      ∧ (applyDone ord l e s).cands = (applyUnder ord s.cfg (installed l e s)).cands := by
  obtain ⟨k, -, shape⟩ := applyDone_shape ord l e s
  rw [shape, State.setLink_framers, State.setLink_stores, State.setLink_cands]
  exact applyBlocks_units ord s.cfg (!s.startDue) l (installed l e s)

/-- What a disable leaves of a store (R48). -/
theorem disabled_store (x : Store) (aligned : Bool) :
    let y := (if aligned = true then x.flush else x).disabled
    y.repeats = x.repeats ∧ y.deletes = x.deletes ∧ y.history = [] ∧ y.windowCount = 0 ∧ y.slipRate = none
      ∧ y.transit = none ∧ y.wanderA = none ∧ y.wanderB = none ∧ y.slipExcess = false
      ∧ (aligned = true → y.state = .idle ∧ y.queue = [] ∧ y.inProgress = [] ∧ y.last = none) := by
  cases aligned
  · exact ⟨rfl, rfl, rfl, rfl, rfl, rfl, rfl, rfl, rfl, nofun⟩
  · exact ⟨rfl, rfl, rfl, rfl, rfl, rfl, rfl, rfl, rfl, fun _ => ⟨rfl, rfl, rfl, rfl⟩⟩

/-- A trunk after an apply: as it was, enabled or disabled (R2, R41, R48). -/
theorem applyDone_trunk (start : s.multiframeAt = some e) (n : Trunk) :
    let t := applyDone ord l e s
    let f := s.framers[n]
    let was := (s.cfg.trunks[n]).enabled
    let now := (t.cfg.trunks[n]).enabled
    (was = now → t.framers[n] = f ∧ t.stores[n] = s.stores[n])
    ∧ (was = false → now = true →
        t.framers[n] = { Framer.reset with state := .noSignal, losFrom := some s.gen.tick
                                           alignErrors := f.alignErrors }
        ∧ ∀ e, s.multiframeAt = some e → t.stores[n] = { s.stores[n] with
            windowComplete := decide (e.toNat % 4096 = 0 ∧ (s.stores[n]).windowFrom = e) })
    ∧ (was = true → now = false →
        t.framers[n] = { Framer.reset with alignErrors := f.alignErrors }
        ∧ (t.stores[n]).repeats = (s.stores[n]).repeats ∧ (t.stores[n]).deletes = (s.stores[n]).deletes
        ∧ (t.stores[n]).history = [] ∧ (t.stores[n]).windowCount = 0 ∧ (t.stores[n]).slipRate = none
        ∧ (t.stores[n]).transit = none ∧ (t.stores[n]).wanderA = none ∧ (t.stores[n]).wanderB = none
        ∧ (t.stores[n]).slipExcess = false
        ∧ (f.state.isAligned = true → (t.stores[n]).state = .idle ∧ (t.stores[n]).queue = []
            ∧ (t.stores[n]).inProgress = [] ∧ (t.stores[n]).last = none)) := by
  obtain ⟨framers, stores, -⟩ := applyDone_units ord l e s
  dsimp only
  rw [applyDone_cfg, framers, stores]
  refine ⟨fun same => applyUnder_trunk_same ord same, fun was now => ?_, fun was now => ?_⟩
  · obtain ⟨framer, store⟩ := applyUnder_trunk_enabled ord was now
    refine ⟨framer, fun e' start' => ?_⟩
    obtain rfl : e = e' := Option.some.inj (start.symm.trans start')
    exact store
  · obtain ⟨framer, store⟩ := applyUnder_trunk_disabled ord was now
    refine ⟨framer, ?_⟩
    rw [store]
    exact disabled_store ..

/-- A candidate after an apply: reset with its event still owed, or as it was (R80, R101). -/
theorem applyDone_cand (c : Cand) :
    let t := applyDone ord l e s
    let old := s.cfg.cands[c]
    let new := t.cfg.cands[c]
    (old.enabled ≠ new.enabled ∨ new.enabled = true ∧ old.source ≠ new.source →
      (new.enabled = false → t.cands[c] = Claim.renewed false)
      ∧ (new.enabled = true → ∃ owed, t.cands[c] = { Claim.renewed true with lostCls := owed }
          ∧ (owed = (s.cands[c]).lostCls
            ∨ Claim.Due s ∧ (s.cands[c]).cls ≠ 0 ∧ owed = some (s.cands[c]).cls)))
    ∧ (old.enabled = new.enabled → old.source = new.source →
        (∀ n : Trunk, new.source = .trunk n → (s.cfg.trunks[n]).enabled = (t.cfg.trunks[n]).enabled) →
        t.cands[c] = s.cands[c]) := by
  obtain ⟨-, -, cands⟩ := applyDone_units ord l e s
  dsimp only
  rw [applyDone_cfg, cands]
  refine ⟨fun changed => ?_, fun enabled source trunks => applyUnder_cand_same ord enabled source trunks⟩
  obtain ⟨owed, record, owes⟩ := applyUnder_cand_reset ord (old := s.cfg) (c := c) (s := installed l e s)
    (changed.imp_right And.symm)
  rw [record]
  refine ⟨fun off => ?_, fun on => ⟨owed, ?_, owes⟩⟩
  · rw [off]
    rfl
  · rw [on]
    rfl

/-- The lane frames after an apply at a frame start that the plane ports have taken (R60). -/
theorem applyDone_lanes (taken : ¬ Claim.Due s) :
    let t := applyDone ord l e s
    t.out.lanesA = (if s.cfg.lanesA = t.cfg.lanesA ∧ s.cfg.patternA = t.cfg.patternA then s.out.lanesA
        else planeLanes t .a)
      ∧ t.out.lanesB = (if s.cfg.lanesB = t.cfg.lanesB ∧ s.cfg.patternB = t.cfg.patternB then s.out.lanesB
        else planeLanes t .b) := by
  obtain ⟨-, -, -, -, -, -, gen, -, handed, -⟩ := applyDone_leaves ord l e s
  have cfg := applyDone_cfg ord l e s
  have lanes : ∀ p, planeLanes (applyDone ord l e s) p = planeLanes (installed l e s) p := fun p =>
    planeLanes_congr p cfg handed (by rw [gen]; rfl) (by rw [gen]; rfl)
  have started : (!s.startDue) = true := by
    rw [Bool.not_eq_true']
    exact Bool.eq_false_iff.mpr fun due => taken ((startDue_iff s).mp due)
  have out : (applyDone ord l e s).out = (applyBlocks ord s.cfg true l (installed l e s)).out := by
    obtain ⟨k, -, shape⟩ := applyDone_shape ord l e s
    rw [shape, State.setLink_out, ← started]
    rfl
  dsimp only
  rw [lanes, lanes, cfg, out]
  exact applyBlocks_lanes ord s.cfg l (installed l e s)

end done

/-- Settles O51: the state that an apply leaves, part by part. -/
theorem commitApply : Obligations.CommitApply := by
  unfold Obligations.CommitApply
  intro ord s takes
  constructor
  · intro none
    rw [exec_commitApply ord takes]
    unfold applyCommit
    rw [none]
  · intro l due
    obtain ⟨e, start, -⟩ := (commitDue_iff s l).mp due
    obtain ⟨cfg, generation, commit, staging, heard, applied, gen, cause, handed, lockout⟩ := applyDone_leaves ord l e s
    exact ⟨applyDone ord l e s, exec_commitApply_due ord takes due start, cfg, generation, commit, staging, heard,
      applied, gen, cause, handed, lockout, applyDone_response ord l e s, applyDone_trunk ord l e s start,
      applyDone_cand ord l e s, applyDone_lanes ord l e s⟩

end Sys2Proof.Machine
end

section
/-! OBLIGATIONS. O52: an apply in its order, and what a trunk and a candidate take (R2, R48, R60, R80, R81, R124, R144, R146,
R160). -/

namespace Sys2Proof.Machine

/-! ### The blocks of an apply under the configuration they install -/

/-- What an apply under the configuration k does between its units and the selector's action (R60, R144, R146). -/
def beforeSelector (old k : Settings) (due : Bool) (u : State) : State :=
  let lane := fun (p : Plane) (v : State) =>
    if old.lanes p = k.lanes p ∧ old.pattern p = k.pattern p then v else fixLanes p v
  let s3 := if due = true then u else lane .b (lane .a u)
  let s4 := if old.synth.f0 ≠ k.synth.f0 ∧ s3.synth.state = .freerun then
      s3.setSynth { s3.synth with f := k.synth.f0, i := k.synth.f0 } else s3
  s4.setSynth { s4.synth with exchangeQl := exchangeQlOf s4 }

section under
variable {k : Settings} {u : State} (old : Settings) (cfg : u.cfg = k)
include cfg

theorem applyLanes_under (p : Plane) :
    applyLanes old p u = if old.lanes p = k.lanes p ∧ old.pattern p = k.pattern p then u else fixLanes p u := by
  subst cfg
  rfl

theorem bothLanes_under :
    bothLanes old u =
      let lane := fun (p : Plane) (v : State) =>
        if old.lanes p = k.lanes p ∧ old.pattern p = k.pattern p then v else fixLanes p v
      lane .b (lane .a u) := by
  have after : (applyLanes old .a u).cfg = k := (congrArg State.cfg (applyLanes_a old u)).trans cfg
  unfold bothLanes
  rw [applyLanes_under old after, applyLanes_under old cfg]

theorem applySynth_under :
    applySynth old u =
      let v := if old.synth.f0 ≠ k.synth.f0 ∧ u.synth.state = .freerun then
          u.setSynth { u.synth with f := k.synth.f0, i := k.synth.f0 } else u
      v.setSynth { v.synth with exchangeQl := exchangeQlOf v } := by
  subst cfg
  rfl

theorem beforeSelector_eq (due : Bool) :
    beforeSelector old k due u = applySynth old (if (!due) = true then bothLanes old u else u) := by
  have lanes : (if due = true then u else bothLanes old u) = if (!due) = true then bothLanes old u else u := by
    cases due <;> rfl
  have kept : (if due = true then u else bothLanes old u).cfg = k := by
    split
    · exact cfg
    · exact (bothLanes_leaves old u).cfg.trans cfg
  rw [← lanes, applySynth_under old kept, bothLanes_under old cfg]
  rfl

theorem beforeSelector_cfg (due : Bool) : (beforeSelector old k due u).cfg = k := by
  rw [beforeSelector_eq old cfg, (applySynth_steers ..).works.cfg]
  split
  · exact (bothLanes_leaves old u).cfg.trans cfg
  · exact cfg

end under

/-! ### The requests on disabled candidates -/

section requests
variable {p : Cand → Bool} {cause : DropCause} {s : State}

theorem dropForcedIf_hit {f : Forced} {c : Cand} (forced : s.sel.forced = some f) (target : f.target = some c)
    (hit : p c = true) : dropForcedIf p cause s = dropForced c cause s := by
  have on : forcedOn s p = some c := by
    unfold forcedOn
    rw [forced]
    dsimp only
    rw [target]
    exact if_pos hit
  unfold dropForcedIf
  rw [on]

theorem dropForcedIf_missed (missed : ∀ f c, s.sel.forced = some f → f.target = some c → p c = false) :
    dropForcedIf p cause s = s := by
  have off : forcedOn s p = none := by
    unfold forcedOn
    split
    · next f forced =>
      split
      · next c target => exact if_neg (by rw [missed f c forced target]; nofun)
      · rfl
    · rfl
  unfold dropForcedIf
  rw [off]

theorem dropManualIf_hit {m : Manual} (manual : s.sel.manual = some m) (hit : p m.target = true) :
    dropManualIf p cause s = dropManual m.target cause s := by
  have on : manualOn s p = some m.target := by
    unfold manualOn
    rw [manual]
    exact if_pos hit
  unfold dropManualIf
  rw [on]

theorem dropManualIf_missed (missed : ∀ m, s.sel.manual = some m → p m.target = false) :
    dropManualIf p cause s = s := by
  have off : manualOn s p = none := by
    unfold manualOn
    split
    · next m manual => exact if_neg (by rw [missed m manual]; nofun)
    · rfl
  unfold dropManualIf
  rw [off]

end requests

/-- The selector's action at an apply: FORCED and MANUAL on a disabled candidate, then the evaluation (R124). -/
theorem applySelector_inOrder {k : Settings} {s : State} (l : LinkId) (cfg : s.cfg = k) : ∃ t u : State,
    (∀ f c, s.sel.forced = some f → f.target = some c → (k.cands[c]).enabled = false →
      t = raise .requestDropped (.candidate c) 0x0102 (s.setSel { s.sel with forced := none }))
    ∧ ((∀ f c, s.sel.forced = some f → f.target = some c → (k.cands[c]).enabled = true) → t = s)
    ∧ (∀ m, t.sel.manual = some m → (k.cands[m.target]).enabled = false →
        u = raise .requestDropped (.candidate m.target) 0x0202 (t.setSel { t.sel with manual := none }))
    ∧ ((∀ m, t.sel.manual = some m → (k.cands[m.target]).enabled = true) → u = t)
    ∧ applySelector l s = evaluate (.commit l) none u := by
  subst cfg
  let disabled := fun c : Cand => !(s.cfg.cands[c]).enabled
  have isDisabled : ∀ c, (s.cfg.cands[c]).enabled = false → disabled c = true := fun c h => congrArg Bool.not h
  have isEnabled : ∀ c, (s.cfg.cands[c]).enabled = true → disabled c = false := fun c h => congrArg Bool.not h
  refine ⟨dropForcedIf disabled .disabled s, dropManualIf disabled .disabled (dropForcedIf disabled .disabled s),
    ?_, ?_, ?_, ?_, rfl⟩
  · exact fun f c forced target off => dropForcedIf_hit forced target (isDisabled c off)
  · exact fun on => dropForcedIf_missed fun f c forced target => isEnabled c (on f c forced target)
  · exact fun m manual off => dropManualIf_hit manual (isDisabled _ off)
  · exact fun on => dropManualIf_missed fun m manual => isEnabled _ (on m manual)

/-! ### The whole of an apply -/

/-- An apply from its selector's action on: the evaluation, the staging area, the completion response (R124, R160). -/
theorem exec_commitApply_selector {s u : State} {l : LinkId} {e : Epoch} {o : Outstanding} (ord : Nat)
    (takes : Takes s) (due : commitDue s = some l) (start : s.multiframeAt = some e)
    (waits : (s.link l).outstanding = some o)
    (blocks : applyBlocks ord s.cfg (!s.startDue) l (installed l e s) = u) :
    let t := ({ u with gen := s.gen, commit := none, applied := true } : State).setLink l { u.link l with staging := [] }
    exec (.commitApply ord) s
      = .next (t.setLink l { Claim.sent (t.link l) (Claim.reply t l o.kind o.tag .ok []) with
          state := .serving, outstanding := none }) := by
  have done : blocksDone ord l e s = { u with gen := s.gen } := by
    unfold blocksDone
    rw [blocks]
  have outstanding : ((blocksDone ord l e s).link l).outstanding = some o := by
    obtain ⟨more, full, same⟩ := blocksDone_heard ord l e s l
    rw [same]
    exact waits
  have empty : emptied l (blocksDone ord l e s)
      = ({ u with gen := s.gen, commit := none, applied := true } : State).setLink l
          { u.link l with staging := [] } := by
    rw [done]
    cases l <;> rfl
  dsimp only
  rw [exec_commitApply_due ord takes due start]
  unfold applyDone
  rw [finishCommit_outstanding outstanding, empty]

/-! ### What a trunk and a candidate take -/

/-- An enable: framer, store, TRUNK-STATE (R2, R41). -/
theorem enableTrunk_eq (n : Trunk) (w : Bool) (s : State) :
    enableTrunk n w s
      = raise .trunkState (.trunk n) (BitVec.ofNat 16 (256 * (s.framers[n]).state.number + 1))
          ((s.setFramer n { Framer.reset with state := .noSignal, losFrom := some s.gen.tick
                                              alignErrors := (s.framers[n]).alignErrors }).setStore n
            { s.stores[n] with windowComplete := w }) := rfl

/-- Settles O52: the apply in its order, one block after the other. -/
theorem commitApplyInItsOrder : Obligations.CommitApplyInItsOrder := by
  unfold Obligations.CommitApplyInItsOrder
  constructor
  · intro s l e o takes due start waits k s1 held order taken
    have key : ∀ ord, taken ord (inOrder ord applyUnits) := by
      intro ord
      let s2 := applyUnder ord s.cfg (installed l e s)
      have cfg : s2.cfg = k := (applyUnder_leaves ord s.cfg (installed l e s)).cfg
      obtain ⟨s6, s7, forced, notForced, manual, notManual, selector⟩ :=
        applySelector_inOrder l (beforeSelector_cfg s.cfg cfg s.startDue)
      have blocks : applyBlocks ord s.cfg (!s.startDue) l (installed l e s) = evaluate (.commit l) none s7 := by
        rw [applyBlocks_eq, ← selector, beforeSelector_eq s.cfg cfg]
      exact ⟨s6, s7, forced, notForced, manual, notManual, exec_commitApply_selector ord takes due start waits blocks⟩
    refine ⟨fun ord => ⟨_, inOrder_perm ord applyUnits, key ord⟩, fun us arranged => ?_⟩
    obtain ⟨ord, rfl⟩ := inOrder_surjective arranged
    exact ⟨ord, key ord⟩
  · intro old s
    refine ⟨fun n => ⟨applyTrunk_same, fun was now => ?_, fun was now => ?_⟩,
      fun c => ⟨applyCandidate_same, applyCandidate_reset⟩⟩
    · exact (applyTrunk_enabled was now).trans (enableTrunk_eq ..)
    · exact (applyTrunk_disabled was now).trans (disableTrunk_eq ..)

end Sys2Proof.Machine
end

section
/-! OBLIGATIONS. A frame record's arrival at a store and the end of its slip window (R23 to R25, R40 to R42), and what a slip
does in the words of the claims (R25, R29, R36 to R39). -/

namespace Sys2Proof.Machine

/-! ### A slip in the words of the claims -/

/-- The accounting of a slip (R36, R38, R39). -/
theorem slipped_eq (x : Store) (note : SlipRecord) (threshold : Nat) :
    x.slipped note threshold = Claim.slipped x note threshold := by
  have excess : (x.slipExcess || x.setsExcess threshold)
      = (x.slipExcess || decide (threshold ≤ min 255 (x.windowCount + 1))) := by
    unfold Store.setsExcess
    rw [bump_eq_min]
    cases x.slipExcess <;> rfl
  unfold Store.slipped Claim.slipped
  rw [excess, pushBounded_eq, bump_eq_min]
  cases kind : note.kind <;> simp only [Store.countSlip, bump_eq_min] <;> rfl

/-- A slip sets SLIP-EXCESS where it was clear before and is set after (R39). -/
theorem setsExcess_iff (x : Store) (note : SlipRecord) (threshold : Nat) :
    x.setsExcess threshold = true
      ↔ x.slipExcess = false ∧ (Claim.slipped x note threshold).slipExcess = true := by
  unfold Store.setsExcess Claim.slipped
  rw [bump_eq_min]
  cases x.slipExcess <;> simp

/-- A slip of a store: its accounting, SLIP, and SLIP-EXCESS where the slip has set the flag (R25, R29, R42). -/
theorem slip_eq (n : Trunk) (kind : SlipKind) (held : Nat) (s : State) :
    slip n kind held s
      = (let x := s.stores[n]
         let X := Claim.slipped x { kind := kind, epoch := s.gen.epoch, frame := s.gen.frameNumber, held := held }
           (s.cfg.trunks[n]).threshold
         Claim.slipEvents n x X (detailOf kind.number held) (s.setStore n X)) := by
  unfold slip Claim.slipEvents
  dsimp only
  rw [slipped_eq]
  exact if_congr (setsExcess_iff ..) rfl rfl

/-! ### O19: arrivals -/

section arrival
variable {n : Trunk} {r : FrameRecord} {s : State}

theorem storeArrival_priming (priming : (s.stores[n]).state = .priming) :
    storeArrival n r s = s.setStore n { s.stores[n] with queue := pushBounded 4 s.stores[n].queue r } := by
  unfold storeArrival
  simp only [priming]

theorem storeArrival_run (run : (s.stores[n]).state = .run) :
    storeArrival n r s
      = (let u := s.setStore n { s.stores[n] with queue := pushBounded 4 s.stores[n].queue r }
         if s.stores[n].queue.length < 4 then u else slip n .deleted s.stores[n].queue.length u) := by
  unfold storeArrival
  simp only [run]

end arrival

/-- Settles O19: PRIMING, RUN with room, RUN with four frames held. -/
theorem arrivalAtAStore : Obligations.ArrivalAtAStore := by
  unfold Obligations.ArrivalAtAStore
  intro n r s x room full
  refine ⟨fun priming => ?_, fun run few => ?_, fun run four => ?_⟩
  · rw [storeArrival_priming priming, pushBounded_eq]
    split <;> rfl
  · rw [storeArrival_run run, pushBounded_eq]
    simp only [x] at few
    simp only [few, if_true]
    rfl
  · have notFew : ¬ s.stores[n].queue.length < 4 := by simp only [x] at four; omega
    rw [storeArrival_run run, pushBounded_eq]
    dsimp only
    rw [if_neg notFew, if_neg notFew, four, slip_eq]
    dsimp only
    rw [setStore_same, setStore_setStore]
    rfl

/-! ### O24: window ends -/

/-- The window end of an enabled trunk's store (R40, R41). -/
theorem Store.endWindow_eq (x : Store) (threshold : Nat) :
    x.endWindow threshold
      = { x with slipRate := if x.windowComplete then some x.windowCount else x.slipRate
                 slipExcess := if x.windowCount < threshold then false else x.slipExcess
                 windowCount := 0, windowComplete := true } := by
  have excess : (x.slipExcess && decide (threshold ≤ x.windowCount))
      = if x.windowCount < threshold then false else x.slipExcess := by
    split
    · next below => rw [decide_eq_false (Nat.not_le.mpr below), Bool.and_false]
    · next reached => rw [decide_eq_true (Nat.not_lt.mp reached), Bool.and_true]
  unfold Store.endWindow
  rw [excess]

/-- SLIP-EXCESS is cleared by a window end where it was set and the count is below the threshold (R40). -/
theorem Store.endWindow_clears_iff (x : Store) (threshold : Nat) :
    (x.slipExcess && !(x.endWindow threshold).slipExcess) = true
      ↔ x.slipExcess = true ∧ x.windowCount < threshold := by
  unfold Store.endWindow
  cases x.slipExcess <;> simp

theorem exec_slipWindowEnd {s : State} (takes : Takes s) (n : Trunk) :
    exec (.slipWindowEnd n) s = .next (endSlipWindow n s) := taken_takes _ s takes

theorem endSlipWindow_due {s : State} {n : Trunk} {e : Epoch} (due : slipWindowDue s n = some e) :
    endSlipWindow n s = atEpoch e (endStoreWindow n e) s := by
  unfold endSlipWindow
  rw [due]

/-- The slip window end of an enabled trunk's store (R40, R41, R42). -/
theorem atEpoch_endStoreWindow_enabled {s : State} {n : Trunk} (e : Epoch)
    (enabled : (s.cfg.trunks[n]).enabled = true) :
    atEpoch e (endStoreWindow n e) s
      = (let x := s.stores[n]
         let k := s.cfg.trunks[n]
         let u := s.setStore n { x.endWindow k.threshold with windowFrom := e }
         if x.slipExcess = true ∧ x.windowCount < k.threshold then Claim.raiseAt e .slipExcess (.trunk n) 0 u
         else u) := by
  have clears := Store.endWindow_clears_iff s.stores[n] (s.cfg.trunks[n]).threshold
  unfold atEpoch endStoreWindow
  dsimp only
  rw [if_pos enabled, if_congr clears rfl rfl]
  split <;> rfl

/-- The slip window end of a disabled trunk's store (R40, R41). -/
theorem atEpoch_endStoreWindow_disabled {s : State} {n : Trunk} (e : Epoch)
    (disabled : ¬ (s.cfg.trunks[n]).enabled = true) :
    atEpoch e (endStoreWindow n e) s
      = s.setStore n { s.stores[n] with windowComplete := false, windowFrom := e } := by
  unfold atEpoch endStoreWindow
  dsimp only
  rw [if_neg disabled]
  rfl

/-- Settles O24: no window end due, and the window ends of an enabled and of a disabled trunk. -/
theorem slipWindowEnd : Obligations.SlipWindowEnd := by
  unfold Obligations.SlipWindowEnd
  intro n s takes
  rw [exec_slipWindowEnd takes n]
  refine ⟨fun none => ?_, fun e due => congrArg _ ?_⟩
  · unfold endSlipWindow
    rw [none]
  · rw [endSlipWindow_due due]
    by_cases enabled : (s.cfg.trunks[n]).enabled = true
    · rw [atEpoch_endStoreWindow_enabled e enabled]
      simp only [Store.endWindow_eq, enabled, if_true, true_and]
    · rw [atEpoch_endStoreWindow_disabled e enabled, if_neg fun h => enabled h.1, if_neg enabled]

end Sys2Proof.Machine
end

section
/-! OBLIGATIONS. CAPTURE and its completion (R43, R44, R151), READ of an item (R35, R157), RESET LINK (R34, R45, R161, R163). -/

namespace Sys2Proof.Machine

/-! ### O23: CAPTURE and CAPTURE_COMPLETION -/

theorem exec_capture {l : LinkId} {tag trunk : Octet} {check : Word16} {s : State} (ready : Ready s l)
    (right : check = checkFor 8 tag [trunk]) :
    exec (.capture l tag trunk check) s
      = .next (handleCapture l { kind := 8, tag := tag, body := [trunk], check := check } trunk s) :=
  request_ready l 8 tag [trunk] check s ready right

theorem exec_captureCompletion {s : State} (running : Running s) (l : LinkId) :
    exec (.captureCompletion l) s = .next (completeCapture l s) := takenAlone_running _ s running

/-- A response depends on its link's queue, overflow flag and staging area alone, and on the commit and the generation
(R153). -/
theorem reply_congr {s t : State} {l : LinkId} (kind tag : Octet) (status : Status) (body : List Octet)
    (queue : (t.link l).queue = (s.link l).queue) (overflow : (t.link l).overflow = (s.link l).overflow)
    (staging : (t.link l).staging = (s.link l).staging) (commit : t.commit = s.commit)
    (generation : t.generation = s.generation) :
    Claim.reply t l kind tag status body = Claim.reply s l kind tag status body := by
  unfold Claim.reply Claim.flags
  rw [queue, overflow, staging, commit, generation]

/-- A capture record and a response made touch different fields of a link. -/
theorem sent_capture (k : Link) (x : Option CaptureRecord) (r : Response) :
    Claim.sent { k with capture := x } r = { Claim.sent k r with capture := x } := by
  unfold Claim.sent
  split <;> rfl

/-- The completion of a capture that a read has handed over (R44, R151). -/
theorem completeCapture_handed {l : LinkId} {s : State} {o : Outstanding} {r : CaptureRecord}
    (handed : handedCapture (s.link l) = some (o, r)) :
    completeCapture l s
      = s.setLink l { Claim.sent (s.link l) (Claim.reply s l o.kind o.tag .ok (Claim.captureBody r)) with
          state := .serving, outstanding := none, capture := some r } := by
  have reply : ∀ kind tag status body,
      Claim.reply (s.setLink l { s.link l with capture := some r }) l kind tag status body
        = Claim.reply s l kind tag status body := fun kind tag status body => by
    apply reply_congr <;> simp
  unfold completeCapture
  rw [handed]
  dsimp only [complete]
  rw [makeResponse_eq, send_eq_sent, reply, captureOctets_eq, State.link_setLink, State.setLink_setLink, sent_capture]

/-- Settles O23: the request, and the completion of what a read has handed over. -/
theorem captureAndItsCompletion : Obligations.CaptureAndItsCompletion := by
  unfold Obligations.CaptureAndItsCompletion
  refine ⟨fun l tag trunk check s ready right => ?_, fun l s running => ?_⟩
  · rw [exec_capture ready right]
    unfold handleCapture
    refine ⟨fun above => ?_, fun n hn => ?_⟩
    · rw [below_none above]
      exact congrArg _ (answer_eq ..)
    · rw [below_some hn]
      rfl
  · rw [exec_captureCompletion running l]
    refine ⟨fun none => congrArg _ (completeCapture_notHanded l s none), fun kind tag n r waits => congrArg _ ?_⟩
    have handed := (handedCapture_iff (s.link l) { kind := kind, tag := tag, work := .capture n (some r) } r).mpr
      ⟨waits, n, rfl⟩
    exact completeCapture_handed handed

/-! ### O54: RESET LINK -/

/-- A RESET with a right check is handled in every state of its link (R151). -/
theorem takeRequest_reset {l : LinkId} {q : Request} {s u : State} (kind : q.kind = 12) (right : q.rightCheck = q.check)
    (handled : ∀ no, handleReset l q no s = u) : takeRequest l q s = u := by
  unfold takeRequest
  split
  · rw [if_pos right]
    unfold handleKind
    simp only [kind, handled]
    rfl
  · rw [if_pos ⟨right, kind⟩, handled]
  · rw [if_pos ⟨right, kind⟩, handled]

theorem exec_resetLink {l : LinkId} {tag : Octet} {check : Word16} {s : State} (takes : Takes s)
    (right : check = checkFor 12 tag [1]) :
    exec (.resetLink l tag check) s = .next (Claim.answered l 12 tag .ok [] (restartLink l s)) := by
  refine (taken_takes _ s takes).trans (congrArg _ ?_)
  refine takeRequest_reset rfl right.symm fun no => ?_
  exact answer_eq l { kind := 12, tag := tag, body := [1], check := check } .ok [] (restartLink l s)

theorem clearWanders_link (l m : LinkId) (s : State) : (clearWanders l s).link m = s.link m := by
  unfold clearWanders State.link
  cases m <;> rfl

/-- The reset of a link changes the wander windows, the commit and the links alone (R163). -/
theorem restartLink_shape (l : LinkId) (s : State) :
    restartLink l s
      = { s with stores := (restartLink l s).stores, commit := (restartLink l s).commit
                 linkA := (restartLink l s).linkA, linkB := (restartLink l s).linkB } := by
  unfold restartLink clearWanders State.setLink
  cases l <;> rfl

theorem restartLink_commit (l : LinkId) (s : State) :
    (restartLink l s).commit = if commitFrom s l = true then none else s.commit := by
  unfold restartLink clearWanders
  exact State.setLink_commit ..

theorem restartLink_link (l : LinkId) (s : State) : (restartLink l s).link l = (s.link l).restart := by
  unfold restartLink
  rw [State.link_setLink, clearWanders_link]
  cases l <;> rfl

theorem restartLink_other {l m : LinkId} (other : m ≠ l) (s : State) : (restartLink l s).link m = s.link m := by
  unfold restartLink
  rw [State.link_setLink_other _ _ _ _ other, clearWanders_link]
  cases m <;> rfl

theorem restartLink_store (l : LinkId) (s : State) (n : Trunk) :
    (restartLink l s).stores[n] = s.stores[n].clearWander l := by
  unfold restartLink
  rw [State.setLink_stores, clearWanders_store]

/-- Settles O54: the parts of a link's reset, one by one. -/
theorem resetOfALink : Obligations.ResetOfALink := by
  unfold Obligations.ResetOfALink
  intro l tag check s takes right
  refine ⟨restartLink l s, exec_resetLink takes right, restartLink_shape l s, fun m other => restartLink_other other s,
    restartLink_link l s, fun p pending => ?_, fun none => ?_, fun n => ⟨?_, ?_⟩⟩
  · rw [restartLink_commit]
    unfold commitFrom
    rw [pending]
    exact if_congr beq_iff_eq rfl rfl
  · rw [restartLink_commit, none, ite_self]
  · rintro rfl
    exact restartLink_store .a s n
  · rintro rfl
    exact restartLink_store .b s n

/-! ### O45: READ -/

theorem exec_read {l : LinkId} {tag item i1 i2 selector : Octet} {check : Word16} {s : State} (ready : Ready s l)
    (right : check = checkFor 2 tag [item, i1, i2, selector]) :
    exec (.read l tag item i1 i2 selector check) s
      = .next (handleRead l { kind := 2, tag := tag, body := [item, i1, i2, selector], check := check } item i1 i2
          selector s) :=
  request_ready l 2 tag [item, i1, i2, selector] check s ready right

/-- The codes of the stageable items end at 10 (R156). -/
theorem code_of_stageItem {code i1 i2 : Octet} {it : StageItem} (h : stageItemOf code i1 i2 = some it) :
    code.toNat ≤ 10 := by
  by_contra above
  have other : ∀ k, k ≤ 10 → code ≠ BitVec.ofNat 8 k := fun k hk same => by
    rw [same, BitVec.toNat_ofNat] at above
    omega
  simp [stageItemOf, other 1, other 2, other 3, other 4, other 5, other 6, other 7, other 8, other 9, other 10] at h

/-- The codes of the status items begin at 16 (R156). -/
theorem code_of_statusItem {code i1 : Octet} {it : StatusItem} (h : statusItemOf code i1 = some it) :
    16 ≤ code.toNat := by
  by_contra below
  have other : ∀ k, 16 ≤ k → k ≤ 26 → code ≠ BitVec.ofNat 8 k := fun k low high same => by
    rw [same, BitVec.toNat_ofNat] at below
    omega
  simp [statusItemOf, other 16, other 17, other 18, other 19, other 20, other 21, other 22, other 23, other 24, other 25,
    other 26] at h

/-- No code names both a stageable item and a status item (R156). -/
theorem stageItemOf_of_statusItem {code i1 : Octet} {it : StatusItem} (h : statusItemOf code i1 = some it) (i2 : Octet) :
    stageItemOf code i1 i2 = none := by
  have high := code_of_statusItem h
  rw [Option.eq_none_iff_forall_ne_some]
  intro staged hs
  have low := code_of_stageItem hs
  omega

section read
variable {l : LinkId} {q : Request} {code i1 i2 selector : Octet} {s : State}

theorem handleRead_unknown (stage : stageItemOf code i1 i2 = none) (status : statusItemOf code i1 = none) :
    handleRead l q code i1 i2 selector s = Claim.answered l q.kind q.tag .badItem [] s := by
  unfold handleRead
  rw [stage, status]
  exact answer_eq ..

/-- A READ of a stageable item (R157). -/
theorem handleRead_stage {it : StageItem} (stage : stageItemOf code i1 i2 = some it) :
    handleRead l q code i1 i2 selector s
      = if selector = 0 then Claim.answered l q.kind q.tag .ok (s.cfg.item it).octets s
        else if selector = 1 then Claim.answered l q.kind q.tag .ok (stagedBody (s.link l) it) s
        else Claim.answered l q.kind q.tag .badValue [] s := by
  unfold handleRead
  rw [stage]
  simp only [answer_eq]

/-- A READ of a status item (R35, R157). -/
theorem handleRead_status {it : StatusItem} (status : statusItemOf code i1 = some it) :
    handleRead l q code i1 i2 selector s
      = if selector = 0 then Claim.answered l q.kind q.tag .ok (statusBody s l it) (afterRead l it s)
        else if selector = 1 then Claim.answered l q.kind q.tag .badItem [] s
        else Claim.answered l q.kind q.tag .badValue [] s := by
  unfold handleRead
  rw [stageItemOf_of_statusItem status, status]
  simp only [answer_eq]

end read

/-- A READ of any status item but WANDER empties nothing (R35). -/
theorem afterRead_other {l : LinkId} {it : StatusItem} {s : State} (other : ∀ n, it ≠ .wander n) :
    afterRead l it s = s := by
  unfold afterRead
  split
  · next n => exact absurd rfl (other n)
  all_goals rfl

/-- A selector above 1 is neither 0 nor 1. -/
theorem selector_above {o : Octet} (above : 1 < o.toNat) : ¬ o = 0 ∧ ¬ o = 1 := by
  constructor <;> (rintro rfl; exact absurd above (by decide))

/-- Settles O45: unknown items, stageable items and status items, by the selector. -/
theorem readOfAnItem : Obligations.ReadOfAnItem := by
  unfold Obligations.ReadOfAnItem
  intro l tag item i1 i2 selector check s ready right out
  have one : ¬ (1 : Octet) = 0 := by decide
  have answered : ∀ {status body u}, handleRead l { kind := 2, tag := tag, body := [item, i1, i2, selector], check := check }
      item i1 i2 selector s = Claim.answered l 2 tag status body u → out status body u := fun h =>
    (exec_read ready right).trans (congrArg _ h)
  refine ⟨fun stage status => answered (handleRead_unknown stage status), fun it stage => ?_, fun it status => ?_⟩
  · have read := handleRead_stage (l := l) (q := { kind := 2, tag := tag, body := [item, i1, i2, selector], check := check })
      (selector := selector) (s := s) stage
    refine ⟨fun zero => answered ?_, fun first => ⟨fun v staged => answered ?_, fun absent => answered ?_⟩,
      fun above => answered ?_⟩
    · rw [read, if_pos zero]
    · rw [read, if_neg (first ▸ one), if_pos first]
      unfold stagedBody
      rw [staged]
    · rw [read, if_neg (first ▸ one), if_pos first]
      unfold stagedBody
      rw [absent]
    · rw [read, if_neg (selector_above above).1, if_neg (selector_above above).2]
  · have read := handleRead_status (l := l) (q := { kind := 2, tag := tag, body := [item, i1, i2, selector], check := check })
      (i2 := i2) (selector := selector) (s := s) status
    refine ⟨fun zero other => answered ?_, fun n zero wander => ⟨fun onA => answered ?_, fun onB => answered ?_⟩,
      fun first => answered ?_, fun above => answered ?_⟩
    · rw [read, if_pos zero, afterRead_other other]
    · rw [read, if_pos zero, wander, onA]
      exact congrArg (fun body => Claim.answered .a 2 tag .ok body _) (wanderStatus_eq s .a n)
    · rw [read, if_pos zero, wander, onB]
      exact congrArg (fun body => Claim.answered .b 2 tag .ok body _) (wanderStatus_eq s .b n)
    · rw [read, if_neg (first ▸ one), if_pos first]
    · rw [read, if_neg (selector_above above).1, if_neg (selector_above above).2]

end Sys2Proof.Machine
end

section
/-! OBLIGATION. What still follows from the step before is taken first (R44, R45, R74; assumption 4). -/

namespace Sys2Proof.Machine

/-! ### Lists of commands -/

theorem runs_cons_next {c : Instr} {cs : List Instr} {s t : State} (h : exec c s = .next t) :
    Claim.runs (c :: cs) s = Claim.runs cs t := by
  rw [Claim.runs, h]

/-- A list of commands whose first part leaves t goes on from t. -/
theorem runs_append {xs ys : List Instr} {s t : State} (h : Claim.runs xs s = some t) :
    Claim.runs (xs ++ ys) s = Claim.runs ys t := by
  induction xs generalizing s with
  | nil =>
    cases h
    rfl
  | cons x xs ih =>
    cases hx : exec x s with
    | next u =>
      rw [runs_cons_next hx] at h
      rw [List.cons_append, runs_cons_next hx, ih h]
    | fault r => exact nomatch r
    | refused r =>
      rw [Claim.runs, hx] at h
      exact absurd h nofun

/-! ### The window ends and the capture completions as commands -/

theorem exec_windowEnd {s : State} (running : Running s) (c : Cand) :
    exec (.windowEnd c) s = .next (endWindow c s) := takenAlone_running _ s running

theorem Keeps.running {s t : State} (h : Keeps s t) (running : Running s) : Running t := h.2.2.trans running

/-- WINDOW_END of candidate after candidate leaves what the window ends leave. -/
theorem runs_windowEnds (cs : List Cand) {s : State} (running : Running s) :
    Claim.runs (cs.map .windowEnd) s = some (cs.foldl (fun u c => endWindow c u) s) := by
  induction cs generalizing s with
  | nil => rfl
  | cons c cs ih =>
    rw [List.map_cons, runs_cons_next (exec_windowEnd running c), List.foldl_cons]
    exact ih ((endWindow_grades c s).keeps.running running)

/-- The commands of what follows leave what `runOn` leaves (assumption 4). -/
theorem runs_leftover {s : State} (running : Running s) :
    Claim.runs ((List.finRange 8).map .windowEnd ++ [.captureCompletion .a, .captureCompletion .b]) s
      = some (runOn s) := by
  have windows := (forCands_endWindow_grades s).keeps.running running
  have first := (completeCapture_keeps .a (forCands endWindow s)).running windows
  rw [runs_append (runs_windowEnds (List.finRange 8) running)]
  exact (runs_cons_next (exec_captureCompletion windows .a)).trans (runs_cons_next (exec_captureCompletion first .b))

/-! ### Nothing is left over -/

/-- A window that has ended is at its first interval. -/
theorem endWindow_ended (c : Cand) (s : State) : windowEndDue (endWindow c s) c = false := by
  unfold endWindow
  split
  · dsimp only
    split <;> simp [windowEndDue, raiseMonitor, Config.windowIntervals]
  · next notDue => exact Bool.eq_false_iff.mpr notDue

theorem endWindow_other {c d : Cand} (other : d ≠ c) (s : State) : (endWindow c s).cands[d] = s.cands[d] := by
  unfold endWindow
  split
  · dsimp only
    split
    · exact setCand_other _ _ _ _ other
    · exact setCand_other _ _ _ _ other
  · rfl

/-- After the window end of every candidate none is due (R75). -/
theorem forCands_endWindow_ended (s : State) (c : Cand) : windowEndDue (forCands endWindow s) c = false := by
  obtain ⟨v, -, same⟩ := foldl_at (fun u v : State => v.cands[c] = u.cands[c]) (fun _ => rfl) (fun h g => g.trans h)
    (fun s d => endWindow d s) c (List.finRange 8) (List.nodup_finRange 8) (List.mem_finRange c)
    (fun d _ other u => endWindow_other (Ne.symm other) u) s
  rw [← endWindow_ended c v]
  exact congrArg (fun r : Runtime => r.state.isActive && decide (Config.windowIntervals ≤ r.intervals)) same

theorem completeCapture_cands (l : LinkId) (s : State) : (completeCapture l s).cands = s.cands := by
  unfold completeCapture complete
  split
  · rfl
  · simp only [State.setLink_cands]

/-- A capture that has been completed is no longer handed over (R44). -/
theorem completeCapture_completed (l : LinkId) (s : State) : handedCapture ((completeCapture l s).link l) = none := by
  cases handed : handedCapture (s.link l) with
  | none => rw [completeCapture_notHanded l s handed, handed]
  | some p =>
    rw [completeCapture_handed handed, State.link_setLink]
    rfl

theorem completeCapture_other {l m : LinkId} (other : m ≠ l) (s : State) :
    (completeCapture l s).link m = s.link m := by
  cases handed : handedCapture (s.link l) with
  | none => rw [completeCapture_notHanded l s handed]
  | some p => rw [completeCapture_handed handed, State.link_setLink_other _ _ _ _ other]

/-- What follows leaves nothing over (assumption 4). -/
theorem settled_runOn (s : State) : Settled (runOn s) := by
  refine ⟨fun c => ?_, fun l => ?_⟩
  · have cands : (runOn s).cands = (forCands endWindow s).cands := by
      unfold runOn
      rw [completeCapture_cands, completeCapture_cands]
    have ended := forCands_endWindow_ended s c
    unfold windowEndDue at ended ⊢
    rw [cands, ended]
  · unfold runOn
    cases l with
    | a => rw [completeCapture_other (l := .b) (m := .a) nofun, completeCapture_completed]
    | b => exact completeCapture_completed ..

theorem takes_runOn {s : State} (running : Running s) : Takes (runOn s) :=
  ⟨(runOn_keeps s).running running, settled_runOn s⟩

/-- A command acts as on the state in which nothing is left over (assumption 4). -/
theorem taken_runOn (f : State → State) {s : State} (running : Running s) : taken f s = taken f (runOn s) := by
  have now : taken f s = .next (f (runOn s)) := by
    unfold taken
    rw [running]
    rfl
  rw [now, taken_takes f _ (takes_runOn running)]

/-- Every command but the five takes first what still follows. -/
theorem exec_taken {c : Instr} (on : runsOn c = true) : ∃ f, ∀ s, exec c s = taken f s := by
  cases c with
  | captureCompletion | windowEnd | pinResetAssert | pinResetRelease | powerOnResetRelease => exact absurd on nofun
  | responseSent l => exact ⟨fun t => t.setLink l (t.link l).sent, fun _ => rfl⟩
  | _ => exact ⟨_, fun _ => rfl⟩

/-- Settles O5: the commands of what follows, the state they leave, and every command that takes them first. -/
theorem leftoverWorkIsTakenFirst : Obligations.LeftoverWorkIsTakenFirst := by
  unfold Obligations.LeftoverWorkIsTakenFirst
  refine fun s running => ⟨runs_leftover running, takes_runOn running, fun c on => ?_⟩
  obtain ⟨f, acts⟩ := exec_taken on
  rw [acts, acts, ← taken_runOn f running]

end Sys2Proof.Machine
end

section
/-! SUPPORT. The read of a store in the words of the claims (R26 to R29, R33, R34, R44), and what it leaves alone. -/

namespace Sys2Proof.Machine

/-! ### What a store delivers, and what it then holds -/

theorem widen_eq_widened (w : Option (Nat × Nat)) (d : Nat) : widen w d = Claim.widened w d := by
  have least : ∀ a b : Nat, min a b = if b < a then b else a := fun a b => by split <;> omega
  have most : ∀ a b : Nat, max a b = if a < b then b else a := fun a b => by split <;> omega
  unfold widen Claim.widened
  rcases w with - | ⟨lo, hi⟩
  · rfl
  · simp only [least, most]

/-- A fresh delivery (R27, R28, R33, R34). -/
theorem deliverFresh_eq (x : Store) (r : FrameRecord) (now : Tick) :
    x.deliverFresh r now = Claim.delivered x r (x.queue.drop 1) now := by
  unfold Store.deliverFresh Claim.delivered
  simp only [widen_eq_widened]
  rfl

section delivers
variable {x : Store} (now : Tick) (note : SlipRecord) (threshold : Nat)

/-- A store that delivers a fresh frame: in PRIMING with two frames held, or in RUN with one (R27, R28). -/
theorem read_fresh {r : FrameRecord} (h : x.delivers = .fresh r) :
    Claim.read x now note threshold = (.fresh r, x.deliverFresh r now) := by
  rw [deliverFresh_eq]
  unfold Store.delivers at h
  unfold Claim.read
  split at h
  · exact absurd h nofun
  · next r' r'' rest state queue =>
    cases h
    simp only [state, queue, List.drop_one, List.tail_cons]
  · exact absurd h nofun
  · next r' rest state queue =>
    cases h
    simp only [state, queue, List.drop_one, List.tail_cons]
  · split at h <;> exact absurd h nofun

/-- A store that repeats its last frame: in RUN with none held (R29). -/
theorem read_repeated {r : FrameRecord} (h : x.delivers = .repeated r) :
    (x.state = .run ∧ x.queue = [] ∧ x.last = some r)
      ∧ Claim.read x now note threshold = (.repeated r, Claim.slipped x note threshold) := by
  unfold Store.delivers at h
  unfold Claim.read
  split at h
  · exact absurd h nofun
  · exact absurd h nofun
  · exact absurd h nofun
  · exact absurd h nofun
  · next state queue =>
    split at h
    · next last =>
      cases h
      exact ⟨⟨state, queue, last⟩, by simp only [state, queue, last]⟩
    · exact absurd h nofun

/-- A store that delivers the idle frame is left as it is (R26, R27). -/
theorem read_idle (h : x.delivers = .idle) : Claim.read x now note threshold = (.idle, x) := by
  unfold Store.delivers at h
  unfold Claim.read
  split at h
  · next state => simp only [state]
  · exact absurd h nofun
  · next state few =>
    split
    · next queue => exact (few _ _ _ queue).elim
    · next run _ => exact absurd (state.symm.trans run) nofun
    · next run _ _ => exact absurd (state.symm.trans run) nofun
    all_goals rfl
  · exact absurd h nofun
  · next state queue =>
    split at h
    · exact absurd h nofun
    · next last => simp only [state, queue, last]

end delivers

/-! ### The read, in the words of the claims -/

/-- What the read of store n delivers, and what the store then holds. -/
def readOf (n : Trunk) (s : State) : Delivered × Store :=
  Claim.read s.stores[n] s.gen.tick
    { kind := .repeated, epoch := s.gen.epoch, frame := s.gen.frameNumber, held := 0 } (s.cfg.trunks[n]).threshold

/-- The state once store n has delivered: its contents, and the events of a repeat slip (R26 to R29, R42). -/
def afterDelivery (n : Trunk) (s : State) : State :=
  let x := s.stores[n]
  if x.state = .run ∧ x.queue = [] ∧ x.last ≠ none then
    Claim.slipEvents n x (readOf n s).2 0x0100 (s.setStore n (readOf n s).2)
  else s.setStore n (readOf n s).2

/-- A delivery handed over to the lanes and to the captures pending on the store (R26, R44, R58). -/
def handedOver (n : Trunk) (d : Delivered) (s u : State) : State :=
  { u with
    out := { u.out with
      handed := u.out.handed.set n { delivered := d, alarm := (s.framers[n]).los || (s.framers[n]).ais } }
    linkA := Claim.copied n d s.gen.tick u.linkA
    linkB := Claim.copied n d s.gen.tick u.linkB }

/-- A read's copy to a pending capture (R44). -/
theorem handCapture_eq (n : Trunk) (d : Delivered) (now : Tick) (k : Link) :
    k.handCapture n (captureOf d now) = Claim.copied n d now k := by
  unfold Link.handCapture Claim.copied
  rcases k.outstanding with - | ⟨kind, tag, - | ⟨m, - | r⟩⟩
  · rfl
  · rfl
  · dsimp only
    split
    · next same =>
      subst same
      cases d <;> rfl
    · rfl
  · rfl

@[simp] theorem setStore_store (s : State) (n : Trunk) : s.setStore n s.stores[n] = s := by simp [State.setStore]

theorem not_runEmpty {x : Store} {d : Delivered} (h : x.delivers = d) (other : ∀ r, d ≠ .repeated r) :
    ¬ (x.state = .run ∧ x.queue = [] ∧ x.last ≠ none) := by
  rintro ⟨state, queue, last⟩
  obtain ⟨r, last⟩ := Option.ne_none_iff_exists'.mp last
  refine other r (h.symm.trans ?_)
  simp only [Store.delivers, state, queue, last]

section cases
variable {n : Trunk} {s : State}

theorem readStore_fresh {r : FrameRecord} (h : (s.stores[n]).delivers = .fresh r) :
    readStore n s = handedOver n (.fresh r) s (s.setStore n (s.stores[n].deliverFresh r s.gen.tick)) := by
  unfold readStore handedOver
  simp only [h, handCapture_eq]

theorem readStore_repeated {r : FrameRecord} (h : (s.stores[n]).delivers = .repeated r) :
    readStore n s = handedOver n (.repeated r) s (slip n .repeated 0 s) := by
  unfold readStore handedOver
  simp only [h, handCapture_eq]

theorem readStore_idle (h : (s.stores[n]).delivers = .idle) : readStore n s = handedOver n .idle s s := by
  unfold readStore handedOver
  simp only [h, handCapture_eq]

end cases

/-- The read of a store: its delivery, then the hand-over (R26). -/
theorem readStore_eq (n : Trunk) (s : State) : readStore n s = handedOver n (readOf n s).1 s (afterDelivery n s) := by
  unfold afterDelivery
  dsimp only
  cases delivers : (s.stores[n]).delivers with
  | fresh r =>
    have got : readOf n s = (.fresh r, s.stores[n].deliverFresh r s.gen.tick) := read_fresh _ _ _ delivers
    rw [if_neg (not_runEmpty delivers nofun), got]
    exact readStore_fresh delivers
  | repeated r =>
    obtain ⟨⟨state, queue, last⟩, read⟩ := read_repeated s.gen.tick
      { kind := .repeated, epoch := s.gen.epoch, frame := s.gen.frameNumber, held := 0 } (s.cfg.trunks[n]).threshold
      delivers
    have got : readOf n s = (.repeated r, _) := read
    rw [if_pos ⟨state, queue, by rw [last]; nofun⟩, got, readStore_repeated delivers, slip_eq]
    rfl
  | idle =>
    have got : readOf n s = (.idle, s.stores[n]) := read_idle _ _ _ delivers
    rw [if_neg (not_runEmpty delivers nofun), got, setStore_store]
    exact readStore_idle delivers

/-! ### What the read leaves alone -/

theorem slipEvents_reports (n : Trunk) (before after : Store) (detail : Word16) (s : State) :
    Reports s (Claim.slipEvents n before after detail s) := by
  unfold Claim.slipEvents
  dsimp only
  split
  · exact (raise_reports ..).trans (raise_reports ..)
  · exact raise_reports ..

theorem afterDelivery_reports (n : Trunk) (s : State) : Reports (s.setStore n (readOf n s).2) (afterDelivery n s) := by
  unfold afterDelivery
  dsimp only
  split
  · exact slipEvents_reports ..
  · exact Reports.refl _

theorem afterDelivery_works (n : Trunk) (s : State) : Works s (afterDelivery n s) :=
  (setStore_works ..).trans (afterDelivery_reports n s).works

theorem afterDelivery_stores (n : Trunk) (s : State) :
    (afterDelivery n s).stores = (s.setStore n (readOf n s).2).stores := (afterDelivery_reports n s).grades.stores

theorem afterDelivery_framers (n : Trunk) (s : State) : (afterDelivery n s).framers = s.framers :=
  (afterDelivery_reports n s).grades.framers

theorem readStore_framers (n : Trunk) (s : State) : (readStore n s).framers = s.framers := by
  rw [readStore_eq]
  exact afterDelivery_framers n s

theorem readStore_cfg (n : Trunk) (s : State) : (readStore n s).cfg = s.cfg := by
  rw [readStore_eq]
  exact (afterDelivery_works n s).cfg

theorem readStore_gen (n : Trunk) (s : State) : (readStore n s).gen = s.gen := by
  rw [readStore_eq]
  exact (afterDelivery_works n s).gen

theorem readStore_store (n : Trunk) (s : State) : (readStore n s).stores[n] = (readOf n s).2 := by
  have stores : (readStore n s).stores = (s.setStore n (readOf n s).2).stores := by
    rw [readStore_eq]
    exact afterDelivery_stores n s
  rw [stores, setStore_same]

theorem readStore_store_other {n m : Trunk} (other : m ≠ n) (s : State) : (readStore n s).stores[m] = s.stores[m] := by
  have stores : (readStore n s).stores = (s.setStore n (readOf n s).2).stores := by
    rw [readStore_eq]
    exact afterDelivery_stores n s
  rw [stores, setStore_other _ _ _ _ other]

theorem readStore_allHanded (n : Trunk) (s : State) :
    (readStore n s).out.handed
      = s.out.handed.set n
          { delivered := (readOf n s).1, alarm := (s.framers[n]).los || (s.framers[n]).ais } := by
  rw [readStore_eq, ← (afterDelivery_works n s).out]
  rfl

theorem readStore_handed (n : Trunk) (s : State) :
    (readStore n s).out.handed[n]
      = { delivered := (readOf n s).1, alarm := (s.framers[n]).los || (s.framers[n]).ais } := by
  rw [readStore_allHanded]
  simp

theorem readStore_handed_other {n m : Trunk} (other : m ≠ n) (s : State) :
    (readStore n s).out.handed[m] = s.out.handed[m] := by
  rw [readStore_allHanded]
  simp [Fin.val_ne_of_ne other.symm]

theorem Heard.outstanding {k k' : Link} (h : Heard k k') : k'.outstanding = k.outstanding := by
  obtain ⟨more, full, rfl⟩ := h
  rfl

/-- The outstanding request of a copy depends on the outstanding request alone. -/
theorem copied_congr {k k' : Link} (n : Trunk) (d : Delivered) (now : Tick) (h : k'.outstanding = k.outstanding) :
    (Claim.copied n d now k').outstanding = (Claim.copied n d now k).outstanding := by
  unfold Claim.copied
  rw [h]
  split
  · split
    · rfl
    · exact h
  all_goals exact h

theorem readStore_outstanding (n : Trunk) (s : State) (l : LinkId) :
    ((readStore n s).link l).outstanding = (Claim.copied n (readOf n s).1 s.gen.tick (s.link l)).outstanding := by
  have link : (readStore n s).link l = Claim.copied n (readOf n s).1 s.gen.tick ((afterDelivery n s).link l) := by
    rw [readStore_eq]
    cases l <;> rfl
  rw [link]
  exact copied_congr _ _ _ ((afterDelivery_works n s).heard l).outstanding

/-- A capture that waits on another store is not copied to. -/
theorem copied_other {n m : Trunk} (other : m ≠ n) {d : Delivered} {now : Tick} {k : Link} {kind tag : Octet}
    {copy : Option CaptureRecord} (h : k.outstanding = some { kind := kind, tag := tag, work := .capture m copy }) :
    Claim.copied n d now k = k := by
  unfold Claim.copied
  rw [h]
  cases copy with
  | none => exact if_neg other
  | some r => rfl

end Sys2Proof.Machine
end

section
/-! OBLIGATIONS. An exchange frame start as every block's work in an order (R26, R51 to R53, R87, R130, R134), and the reads
of all stores at it (R26 to R29, R33, R34, R44, R58). -/

namespace Sys2Proof.Machine

/-! ### The units of a frame start, and their orders -/

theorem frameUnits_nodup (multiframe : Bool) : (frameUnits multiframe).Nodup := by
  have reads : ((List.finRange 48).map FrameUnit.read).Nodup :=
    (List.nodup_finRange 48).map fun a b h => by injection h
  unfold frameUnits
  refine List.nodup_append.mpr ⟨by cases multiframe <;> decide, reads, fun a ha b hb => ?_⟩
  obtain ⟨t, -, rfl⟩ := List.mem_map.mp hb
  rintro rfl
  cases multiframe <;> simp at ha

theorem read_mem_frameUnits (multiframe : Bool) (n : Trunk) : FrameUnit.read n ∈ frameUnits multiframe := by
  simp [frameUnits]

theorem mem_frameUnits_multiframe (u : FrameUnit) : u ∈ frameUnits true := by
  cases u <;> simp [frameUnits]

/-- The place of a member under a renaming of the members. -/
theorem idxOf_map_injective {α : Type} [DecidableEq α] {f : α → α} (inj : f.Injective) (a : α) (xs : List α) :
    (xs.map f).idxOf (f a) = xs.idxOf a := by
  induction xs with
  | nil => rfl
  | cons x xs ih =>
    rw [List.map_cons]
    by_cases same : x = a
    · rw [List.idxOf_cons_eq _ same, List.idxOf_cons_eq _ (congrArg f same)]
    · rw [List.idxOf_cons_ne _ same, List.idxOf_cons_ne _ (inj.ne same), ih]

/-- The length and the sample change places. -/
theorem lengthBeforeSample_eq (us : List FrameUnit) :
    lengthBeforeSample us = if us.idxOf .sample < us.idxOf .length then
        us.map (Equiv.swap FrameUnit.sample FrameUnit.length)
      else us := by
  have swaps : (fun u : FrameUnit => if u = .sample then .length else if u = .length then .sample else u)
      = Equiv.swap FrameUnit.sample FrameUnit.length := funext fun u => (Equiv.swap_apply_def ..).symm
  unfold lengthBeforeSample
  rw [swaps]

section multiframe
variable {us : List FrameUnit} (h : us.Perm (frameUnits true))
include h

theorem mem_multiframeOrder (u : FrameUnit) : u ∈ us := h.mem_iff.mpr (mem_frameUnits_multiframe u)

theorem lengthBeforeSample_perm : (lengthBeforeSample us).Perm us := by
  have nodup : us.Nodup := h.nodup_iff.mpr (frameUnits_nodup true)
  rw [lengthBeforeSample_eq]
  split
  · refine (List.perm_ext_iff_of_nodup (nodup.map (Equiv.injective _)) nodup).mpr fun u => ?_
    refine iff_of_true (List.mem_map.mpr ?_) (mem_multiframeOrder h u)
    exact ⟨Equiv.swap .sample .length u, mem_multiframeOrder h _, Equiv.swap_apply_self ..⟩
  · exact List.Perm.refl us

theorem lengthBeforeSample_first : (lengthBeforeSample us).idxOf .length < (lengthBeforeSample us).idxOf .sample := by
  rw [lengthBeforeSample_eq]
  split
  · next behind =>
    have length := idxOf_map_injective (Equiv.injective (Equiv.swap FrameUnit.sample FrameUnit.length)) .sample us
    have sample := idxOf_map_injective (Equiv.injective (Equiv.swap FrameUnit.sample FrameUnit.length)) .length us
    rw [Equiv.swap_apply_left] at length
    rw [Equiv.swap_apply_right] at sample
    rw [length, sample]
    exact behind
  · next notBehind =>
    have apart : us.idxOf .length ≠ us.idxOf .sample := fun same =>
      absurd ((List.idxOf_inj (mem_multiframeOrder h .length)).mp same) nofun
    omega

end multiframe

theorem unitOrder_perm (ord : Nat) (multiframe : Bool) : (unitOrder ord multiframe).Perm (frameUnits multiframe) := by
  unfold unitOrder
  cases multiframe
  · exact inOrder_perm ..
  · exact (lengthBeforeSample_perm (inOrder_perm ..)).trans (inOrder_perm ..)

theorem unitOrder_first (ord : Nat) : (unitOrder ord true).idxOf .length < (unitOrder ord true).idxOf .sample :=
  lengthBeforeSample_first (inOrder_perm ..)

/-! ### O26: the frame start as its units -/

/-- The frame that follows frame 15 begins a multiframe (R52). -/
theorem nextFrame_zero_iff (k : Fin 16) : k + 1 = 0 ↔ k = 15 := by revert k; decide

theorem advanceGenerator_eq (s : State) :
    advanceGenerator s
      = s.setGen { s.gen with
          frameStart := s.gen.tick, frameNumber := s.gen.frameNumber + 1
          epoch := if s.gen.frameNumber = 15 then s.gen.epoch + 1 else s.gen.epoch } := by
  unfold advanceGenerator
  simp only [nextFrame_zero_iff]
  rfl

/-- The frame that begins at a frame start of s begins a multiframe. -/
def beginsMultiframe (s : State) : Bool := decide (s.gen.frameNumber = 15)

/-- What the units of an order leave at a frame start. -/
def unitsDone (us : List FrameUnit) (s : State) : State := us.foldl (fun u x => x.take u) (advanceGenerator s)

/-- The lanes and the squelches of the new frame. -/
def outputsFixed (s : State) : State := decideSquelch (fixLanes .b (fixLanes .a s))

theorem exec_frameStart {s : State} (takes : Takes s) (due : Claim.Due s) (ord : Nat) :
    exec (.exchangeFrameStart ord) s
      = .next (outputsFixed (unitsDone (unitOrder ord (beginsMultiframe s)) s)) := by
  have begins : ((advanceGenerator s).gen.frameNumber == 0) = beginsMultiframe s :=
    Bool.eq_iff_iff.mpr (by rw [beq_iff_eq, beginsMultiframe, decide_eq_true_eq]; exact nextFrame_zero_iff _)
  refine (taken_takes _ s takes).trans (congrArg _ ?_)
  unfold frameStartStep
  rw [if_pos ((startDue_iff s).mpr due)]
  unfold startFrame
  dsimp only
  rw [begins]
  rfl

/-- The lanes and the squelches are the outputs of the frame alone, and what was handed over stands (R57, R65). -/
theorem outputsFixed_shape (s : State) :
    outputsFixed s = { s with out := (outputsFixed s).out } ∧ (outputsFixed s).out.handed = s.out.handed := by
  obtain ⟨a, b, x, y, fixed⟩ : ∃ a b x y, outputsFixed s = { s with
      out := { handed := s.out.handed, lanesA := a, lanesB := b, squelched1 := x, squelched2 := y } } :=
    ⟨_, _, _, _, by unfold outputsFixed decideSquelch fixLanes; rfl⟩
  rw [fixed]
  exact ⟨rfl, rfl⟩

/-- The units of a frame start, by whether it begins a multiframe (R52). -/
theorem frameUnits_eq (s : State) :
    frameUnits (beginsMultiframe s)
      = (if s.gen.frameNumber = 15 then
          [FrameUnit.length, .frameQl, .classes, .waits, .timeout, .sample] else [.length, .frameQl])
        ++ (List.finRange 48).map .read := by
  unfold frameUnits beginsMultiframe
  simp only [decide_eq_true_eq]

/-- The frame length is produced from the residue and F (R51, R130). -/
theorem produceLength_eq (s : State) :
    produceLength s
      = (let sum : Int := s.synth.r + s.synth.f
         let q : Int := sum / 65536
         { s with synth := { s.synth with r := (sum - 65536 * q).toNat }
                  gen := { s.gen with frameLength := (3072 - q).toNat } }) := by
  unfold produceLength
  simp only [Int.emod_def]

/-- Settles O26: the order of a frame start's operand, the operand of an order, and the units. -/
theorem frameStartTakesEveryBlocksWork : Obligations.FrameStartTakesEveryBlocksWork := by
  unfold Obligations.FrameStartTakesEveryBlocksWork
  constructor
  · intro s takes due started work order taken
    have units : frameUnits (beginsMultiframe s) = work := frameUnits_eq s
    have key : ∀ ord, taken ord (unitOrder ord (beginsMultiframe s)) := by
      intro ord
      have done : unitsDone (unitOrder ord (beginsMultiframe s)) s
          = (unitOrder ord (beginsMultiframe s)).foldl (fun u x => x.take u) started := by
        unfold unitsDone
        rw [advanceGenerator_eq]
      obtain ⟨shape, handed⟩ := outputsFixed_shape (unitsDone (unitOrder ord (beginsMultiframe s)) s)
      exact ⟨_, exec_frameStart takes due ord, handed.trans (by rw [done]), shape.trans (by rw [done])⟩
    refine ⟨fun ord => ⟨_, ⟨units ▸ unitOrder_perm .., fun last => ?_⟩, key ord⟩, fun us arranged => ?_⟩
    · rw [beginsMultiframe, decide_eq_true last]
      exact unitOrder_first ord
    · obtain ⟨perm, first⟩ := arranged
      obtain ⟨ord, rfl⟩ := unitOrder_surjective (beginsMultiframe s) (units ▸ perm)
        fun begins => first (of_decide_eq_true begins)
      exact ⟨ord, key ord⟩
  · exact fun s => ⟨produceLength_eq s, rfl, rfl, rfl, rfl, rfl, fun _ => rfl⟩

end Sys2Proof.Machine
end

section
/-! OBLIGATIONS. The reads of all stores at an exchange frame start (R26 to R29, R33, R34, R44, R58), and the fresh read in RUN
(R28). -/

namespace Sys2Proof.Machine

/-! ### What the units leave of one store's read -/

/-- What the read of store n goes by, what it has handed over and the captures that wait on it are as they were. -/
structure ReadStands (n : Trunk) (s t : State) : Prop where
  store : t.stores[n] = s.stores[n]
  handed : t.out.handed[n] = s.out.handed[n]
  framers : t.framers = s.framers
  cfg : t.cfg = s.cfg
  tick : t.gen.tick = s.gen.tick
  epoch : t.gen.epoch = s.gen.epoch
  frameNumber : t.gen.frameNumber = s.gen.frameNumber
  waiting : ∀ l kind tag copy, (s.link l).outstanding = some { kind := kind, tag := tag, work := .capture n copy } →
    (t.link l).outstanding = (s.link l).outstanding

theorem ReadStands.refl (n : Trunk) (s : State) : ReadStands n s s :=
  ⟨rfl, rfl, rfl, rfl, rfl, rfl, rfl, fun _ _ _ _ _ => rfl⟩

theorem ReadStands.trans {n : Trunk} {s t u : State} (h : ReadStands n s t) (g : ReadStands n t u) : ReadStands n s u where
  store := g.store.trans h.store
  handed := g.handed.trans h.handed
  framers := g.framers.trans h.framers
  cfg := g.cfg.trans h.cfg
  tick := g.tick.trans h.tick
  epoch := g.epoch.trans h.epoch
  frameNumber := g.frameNumber.trans h.frameNumber
  waiting l kind tag copy w := by
    have same := h.waiting l kind tag copy w
    exact (g.waiting l kind tag copy (same.trans w)).trans same

theorem Grades.readStands {s t : State} (h : Grades s t) (n : Trunk) : ReadStands n s t where
  store := by rw [h.stores]
  handed := by rw [h.works.out]
  framers := h.framers
  cfg := h.cfg
  tick := by rw [h.gen]
  epoch := by rw [h.gen]
  frameNumber := by rw [h.gen]
  waiting l _ _ _ _ := (h.works.heard l).outstanding

/-- The read of another store leaves this store's read alone. -/
theorem readStore_readStands {n m : Trunk} (other : n ≠ m) (s : State) : ReadStands n s (readStore m s) where
  store := readStore_store_other other s
  handed := readStore_handed_other other s
  framers := readStore_framers m s
  cfg := readStore_cfg m s
  tick := by rw [readStore_gen]
  epoch := by rw [readStore_gen]
  frameNumber := by rw [readStore_gen]
  waiting l _ _ _ waits := by rw [readStore_outstanding, copied_other other waits]

/-- Every unit but the read of store n leaves that read alone. -/
theorem frameUnit_readStands {n : Trunk} {u : FrameUnit} (other : u ≠ .read n) (s : State) : ReadStands n s (u.take s) := by
  have generator : ∀ g y, g.tick = s.gen.tick → g.epoch = s.gen.epoch → g.frameNumber = s.gen.frameNumber →
      ReadStands n s { s with gen := g, synth := y } := fun g y tick epoch number =>
    ⟨rfl, rfl, rfl, rfl, tick, epoch, number, fun l _ _ _ _ => by cases l <;> rfl⟩
  cases u with
  | length => exact generator _ _ rfl rfl rfl
  | frameQl => exact generator _ s.synth rfl rfl rfl
  | classes => exact (classEvaluation_grades s).readStands n
  | waits => exact (countWaits_grades s).readStands n
  | timeout => exact (takeHandedTimeout_grades s).readStands n
  | sample => exact (phaseSample_grades s).readStands n
  | read m => exact readStore_readStands (fun same => other (by rw [same])) s

/-- The outputs of the new frame leave every read alone. -/
theorem outputsFixed_readStands (n : Trunk) (s : State) : ReadStands n s (outputsFixed s) := by
  obtain ⟨shape, handed⟩ := outputsFixed_shape s
  have other : ∀ out : Outputs, out.handed = s.out.handed → ReadStands n s { s with out := out } := fun out same =>
    ⟨rfl, by rw [same], rfl, rfl, rfl, rfl, rfl, fun l _ _ _ _ => by cases l <;> rfl⟩
  rw [shape]
  exact other _ handed

/-- A read that stands delivers the same and leaves the store the same. -/
theorem ReadStands.readOf {n : Trunk} {s t : State} (h : ReadStands n s t) : readOf n t = readOf n s := by
  unfold Machine.readOf
  rw [h.store, h.tick, h.epoch, h.frameNumber, h.cfg]

/-- What a frame start leaves of a store is what its own read leaves of it as it stood. -/
theorem frameStart_read (n : Trunk) {us : List FrameUnit} {multiframe : Bool} (h : us.Perm (frameUnits multiframe))
    (s : State) :
    ∃ v, ReadStands n (advanceGenerator s) v ∧ ReadStands n (readStore n v) (outputsFixed (unitsDone us s)) := by
  obtain ⟨v, before, later⟩ := foldl_at (ReadStands n) (ReadStands.refl n) ReadStands.trans
    (fun s (u : FrameUnit) => u.take s) (.read n) us (h.nodup_iff.mpr (frameUnits_nodup multiframe))
    (h.mem_iff.mpr (read_mem_frameUnits multiframe n)) (fun u _ other s => frameUnit_readStands other s) (advanceGenerator s)
  exact ⟨v, before, later.trans (outputsFixed_readStands n _)⟩

/-! ### O21: every store reads once -/

/-- A capture that waits on the store has the copy (R44). -/
theorem copied_waiting {n : Trunk} {k : Link} {kind tag : Octet} (d : Delivered) (now : Tick)
    (waits : k.outstanding = some { kind := kind, tag := tag, work := .capture n none }) :
    ∃ copy, (Claim.copied n d now k).outstanding = some { kind := kind, tag := tag, work := .capture n copy } := by
  unfold Claim.copied
  simp only [waits, if_true]
  exact ⟨_, rfl⟩

section frame
variable {us : List FrameUnit} {multiframe : Bool} (h : us.Perm (frameUnits multiframe)) (s : State)
include h

theorem frameStart_framers : (outputsFixed (unitsDone us s)).framers = s.framers := by
  obtain ⟨v, before, later⟩ := frameStart_read 0 h s
  rw [later.framers, readStore_framers, before.framers]
  rfl

/-- Store n after a frame start, and what it has handed over (R26 to R29, R58). -/
theorem frameStart_store (n : Trunk) :
    let t := outputsFixed (unitsDone us s)
    let note : SlipRecord := { kind := .repeated, epoch := t.gen.epoch, frame := t.gen.frameNumber, held := 0 }
    let got := Claim.read s.stores[n] s.gen.tick note (s.cfg.trunks[n]).threshold
    t.stores[n] = got.2 ∧ t.out.handed[n] = { delivered := got.1, alarm := (s.framers[n]).los || (s.framers[n]).ais } := by
  obtain ⟨v, before, later⟩ := frameStart_read n h s
  dsimp only
  have got : readOf n v = Claim.read s.stores[n] s.gen.tick
      { kind := .repeated, epoch := (outputsFixed (unitsDone us s)).gen.epoch
        frame := (outputsFixed (unitsDone us s)).gen.frameNumber, held := 0 } (s.cfg.trunks[n]).threshold := by
    rw [later.epoch, later.frameNumber, readStore_gen, before.epoch, before.frameNumber]
    exact before.readOf
  rw [← got, later.store, readStore_store, later.handed, readStore_handed, before.framers]
  exact ⟨rfl, rfl⟩

/-- A capture that waits on store n after a frame start (R44). -/
theorem frameStart_outstanding {n : Trunk} {l : LinkId} {kind tag : Octet}
    (waits : (s.link l).outstanding = some { kind := kind, tag := tag, work := .capture n none }) :
    let t := outputsFixed (unitsDone us s)
    (t.link l).outstanding = (Claim.copied n (t.out.handed[n]).delivered s.gen.tick (s.link l)).outstanding := by
  obtain ⟨v, before, later⟩ := frameStart_read n h s
  have started : (advanceGenerator s).link l = s.link l := by cases l <;> rfl
  have same : (v.link l).outstanding = (s.link l).outstanding :=
    (before.waiting l kind tag none (by rw [started]; exact waits)).trans (congrArg _ started)
  have delivered : ((outputsFixed (unitsDone us s)).out.handed[n]).delivered = (readOf n v).1 := by
    rw [later.handed, readStore_handed]
  have tick : v.gen.tick = s.gen.tick := before.tick
  have read : ((readStore n v).link l).outstanding
      = (Claim.copied n (readOf n v).1 s.gen.tick (s.link l)).outstanding := by
    rw [readStore_outstanding, tick]
    exact copied_congr n _ _ same
  obtain ⟨copy, copies⟩ := copied_waiting (readOf n v).1 s.gen.tick waits
  dsimp only
  rw [later.waiting l kind tag copy (read.trans copies), read, delivered]

end frame

/-- Settles O21: the read of a store, and the reads of all stores at a frame start. -/
theorem storesReadAtAFrameStart : Obligations.StoresReadAtAFrameStart := by
  unfold Obligations.StoresReadAtAFrameStart
  refine ⟨fun n s => readStore_eq n s, fun ord s takes due => ?_⟩
  have units := unitOrder_perm ord (beginsMultiframe s)
  exact ⟨_, exec_frameStart takes due ord, frameStart_framers units s, fun n => frameStart_store units s n,
    fun l kind tag n waits => frameStart_outstanding units s waits⟩

/-- Settles O20: the read of a store in RUN with frames held, among the reads of a frame start. -/
theorem freshReadInRun : Obligations.FreshReadInRun := by
  unfold Obligations.FreshReadInRun
  intro ord s n r rest takes due run queue x d
  have stored := frameStart_store (unitOrder_perm ord (beginsMultiframe s)) s n
  have fresh : ∀ note threshold, Claim.read s.stores[n] s.gen.tick note threshold
      = (.fresh r, Claim.delivered s.stores[n] r rest s.gen.tick) := fun note threshold => by
    simp only [Claim.read, run, queue]
  dsimp only at stored
  rw [fresh] at stored
  obtain ⟨store, handed⟩ := stored
  exact ⟨_, exec_frameStart takes due ord, by rw [handed], store⟩

end Sys2Proof.Machine
end

section
/-! SUPPORT. What a step can do, said once: the moves it is made of, with what each may do to a link's staging area and event
queue. -/

namespace Sys2Proof.Machine

/-! ### The moves -/

/-- A link that has received, answered or completed something: its staging area and its event queue are as they were. -/
def Replies (k k' : Link) : Prop := k'.staging = k.staging ∧ k'.queue = k.queue ∧ k'.overflow = k.overflow

/-- One action of the part, with what it goes by. -/
inductive Move : State → State → Prop
  | reply {s l k} : Replies (s.link l) k → Move s (s.setLink l k)
  | stage {s l it os v} : stagedValue it os = some v →
      Move s (s.setLink l { s.link l with staging := placeStaged (s.link l).staging v })
  | discard {s l} : Move s (s.setLink l { s.link l with staging := [] })
  | deliver {s l k n} : k.staging = (s.link l).staging → k.queue = (s.link l).queue.drop n →
      k.overflow = ((s.link l).overflow && !((s.link l).queue.drop n).isEmpty) → Move s (s.setLink l k)
  | commit {s x} : Move s { s with commit := x }
  | cause {s x} : Move s { s with cause := x }
  | queue {s is n} : Move s { s with pending := is, free := n }
  | hold {s} : Move s { s with pinHeld := true }
  | release {s cause} : Move s (releasePart cause s)
  | tick {s} : Move s (oneTick s)
  | octet {s t o} : Move s (octetArrival t o s)
  | signal {s t} : Move s (expireSignal t s)
  | frame {s ord} : Move s (startFrame ord s)
  | windowEnd {s c} : Move s (endWindow c s)
  | wait {s c} : Move s (endWait c s)
  | timeout {s} : Move s (acquireTimeoutStep s)
  | slipWindow {s t} : Move s (endSlipWindow t s)
  | edge {s i} : Move s (stationEdge i s)
  | activity {s c} : Move s (expireActivity c s)
  | apply {s ord} : Move s (applyCommit ord s)
  | switch {s l action operand option} : Move s (switchAction l action operand option s).2
  | restart {s t} : Move s (restartTrunk t s)
  | recenter {s t note} : s.stores[t].state = .run → Move s (s.setStore t (s.stores[t].recenter note))
  | counters {s l} : Move s (raise .countersCleared (.link l) 0 (clearCounters s))
  | read {s l it} : Move s (afterRead l it s)
  | resetLink {s l} : Move s (restartLink l s)
  | resetPart {s l} : Move s (warmReset l s)

/-- One move after another. -/
abbrev Moves : State → State → Prop := Relation.ReflTransGen Move

/-- What every move keeps, moves keep. -/
theorem Moves.keep {P : State → Prop} (keep : ∀ s t, Move s t → P s → P t) {s t : State} (h : Moves s t) (hs : P s) :
    P t := by
  induction h with
  | refl => exact hs
  | tail _ move ih => exact keep _ _ move ih

theorem Move.moves {s t : State} (h : Move s t) : Moves s t := .single h

theorem Moves.refl (s : State) : Moves s s := Relation.ReflTransGen.refl

/-! ### Links -/

theorem Replies.refl (k : Link) : Replies k k := ⟨rfl, rfl, rfl⟩

theorem send_replies (k : Link) (r : Response) : Replies k (k.send r) := by
  unfold Link.send
  split <;> exact Replies.refl k

theorem sent_replies (k : Link) : Replies k k.sent := by
  unfold Link.sent
  split
  · exact Replies.refl k
  · split <;> exact Replies.refl k

theorem reply_moves {s : State} {l : LinkId} {k : Link} (h : Replies (s.link l) k) : Moves s (s.setLink l k) :=
  (Move.reply h).moves

section requests
variable (l : LinkId) (q : Request) (s : State)

theorem answer_moves (status : Status) (body : List Octet) : Moves s (answer l q status body s) :=
  reply_moves (send_replies ..)

theorem answerAside_moves (status : Status) : Moves s (answerAside l q status s) := by
  unfold answerAside
  split
  · exact reply_moves (send_replies ..)
  · exact Moves.refl s

theorem await_moves (w : Work) : Moves s (await l q w s) := reply_moves (Replies.refl _)

theorem completeCapture_moves : Moves s (completeCapture l s) := by
  unfold completeCapture
  split
  · exact Moves.refl s
  · refine .trans ?_ (reply_moves (send_replies ..))
    exact reply_moves (Replies.refl _)

theorem runOn_moves : Moves s (runOn s) :=
  (foldl_reach Moves Moves.refl Relation.ReflTransGen.trans _ (fun _ _ => Move.windowEnd.moves) _ s).trans
    ((completeCapture_moves ..).trans (completeCapture_moves ..))

theorem handleRead_moves (code i1 i2 selector : Octet) : Moves s (handleRead l q code i1 i2 selector s) := by
  unfold handleRead
  split
  · split
    · exact answer_moves ..
    · split <;> exact answer_moves ..
  · split
    · exact Move.read.moves.trans (answer_moves ..)
    · split <;> exact answer_moves ..
  · exact answer_moves ..

theorem handleStage_moves (code i1 i2 : Octet) (value : List Octet) :
    Moves s (handleStage l q code i1 i2 value s) := by
  unfold handleStage
  split
  · exact answer_moves ..
  · split
    · exact answer_moves ..
    · split
      · exact answer_moves ..
      · next staged => exact (Move.stage staged).moves.trans (answer_moves ..)

theorem handleCommit_moves (expected : Word16) : Moves s (handleCommit l q expected s) := by
  unfold handleCommit
  split
  · exact answer_moves ..
  · exact Move.commit.moves.trans (await_moves ..)

theorem handleTrunk_moves (action trunk : Octet) : Moves s (handleTrunk l q action trunk s) := by
  unfold handleTrunk
  split
  · exact answer_moves ..
  · split
    · unfold handleRestart
      split
      · exact Move.restart.moves.trans (answer_moves ..)
      · exact answer_moves ..
    · split
      · unfold handleRecenter
        dsimp only
        split
        · next run => exact (Move.recenter run).moves.trans (answer_moves ..)
        · exact answer_moves ..
        · exact answer_moves ..
      · exact answer_moves ..

/-- The overflow flag clears at the response that leaves the queue empty (R168). -/
theorem clearDrained_fields (k : Link) :
    (clearDrained k).staging = k.staging ∧ (clearDrained k).queue = k.queue
      ∧ (clearDrained k).overflow = (k.overflow && !k.queue.isEmpty) := by
  unfold clearDrained
  cases k.queue.isEmpty <;> simp

/-- A response that delivers events: they leave the queue, and the overflow flag with the last of them (R168). -/
theorem deliver_moves (n : Nat) (r : Response) :
    Moves s (s.setLink l (clearDrained
      { ({ s.link l with queue := (s.link l).queue.drop n } : Link).send r with state := .serving })) := by
  obtain ⟨staging, queue, overflow⟩ := clearDrained_fields
    { ({ s.link l with queue := (s.link l).queue.drop n } : Link).send r with state := .serving }
  obtain ⟨sentStaging, sentQueue, sentOverflow⟩ := send_replies { s.link l with queue := (s.link l).queue.drop n } r
  refine (Move.deliver (staging.trans sentStaging) (queue.trans sentQueue) (overflow.trans ?_)).moves
  dsimp only
  rw [sentQueue, sentOverflow]

theorem handleEvents_moves (count : Octet) : Moves s (handleEvents l q count s) := by
  unfold handleEvents
  dsimp only
  split
  · unfold answer
    simp only [State.setLink_setLink, State.link_setLink]
    exact deliver_moves ..
  · exact answer_moves ..

theorem handleClear_moves (option : Octet) : Moves s (handleClear l q option s) := by
  unfold handleClear
  split
  · exact Move.counters.moves.trans (answer_moves ..)
  · split
    · exact Move.cause.moves.trans (answer_moves ..)
    · exact answer_moves ..

theorem handleMask_moves (m : Octet) : Moves s (handleMask l q m s) := by
  unfold handleMask
  split
  · exact answer_moves ..
  · refine .trans ?_ (answer_moves ..)
    exact reply_moves (Replies.refl _)

theorem handleCapture_moves (trunk : Octet) : Moves s (handleCapture l q trunk s) := by
  unfold handleCapture
  split
  · exact answer_moves ..
  · exact await_moves ..

theorem handleReset_moves (no : Status → State → State) (refuses : ∀ why s, Moves s (no why s)) :
    Moves s (handleReset l q no s) := by
  unfold handleReset
  split
  · split
    · exact Move.resetLink.moves.trans (answer_moves ..)
    · split
      · exact Move.resetPart.moves.trans (answer_moves ..)
      · exact refuses ..
  · exact refuses ..

/-- The kinds with one body octet (R155). -/
theorem handleOne_moves : Moves s (handleOne l q s) := by
  unfold handleOne
  split
  · split
    · exact handleCapture_moves ..
    split
    · exact handleEvents_moves ..
    split
    · exact handleClear_moves ..
    · exact handleMask_moves ..
  · exact answer_moves ..

theorem handleBare_moves : Moves s (handleBare l q s) := by
  unfold handleBare
  split
  · split
    · exact answer_moves ..
    · exact Move.discard.moves.trans (answer_moves ..)
  · exact answer_moves ..

theorem handleReadBody_moves : Moves s (handleReadBody l q s) := by
  unfold handleReadBody
  split
  · exact handleRead_moves ..
  · exact answer_moves ..

theorem handleStageBody_moves : Moves s (handleStageBody l q s) := by
  unfold handleStageBody
  split
  · exact handleStage_moves ..
  · exact answer_moves ..

theorem handleTwo_moves : Moves s (handleTwo l q s) := by
  unfold handleTwo
  split
  · split
    · exact handleCommit_moves ..
    · exact handleTrunk_moves ..
  · exact answer_moves ..

theorem handleSwitchBody_moves : Moves s (handleSwitchBody l q s) := by
  unfold handleSwitchBody
  split
  · exact Move.switch.moves.trans (answer_moves ..)
  · exact answer_moves ..

theorem handleKind_moves : Moves s (handleKind l q s) := by
  unfold handleKind
  split
  · exact handleBare_moves ..
  split
  · exact handleReadBody_moves ..
  split
  · exact handleStageBody_moves ..
  split
  · exact handleTwo_moves ..
  split
  · exact handleSwitchBody_moves ..
  split
  · exact handleOne_moves ..
  split
  · exact handleReset_moves _ _ _ _ fun _ _ => answer_moves ..
  · exact answer_moves ..

/-- The taking of a request, in any state of its link (R151). -/
theorem takeRequest_moves : Moves s (takeRequest l q s) := by
  have aside : Moves s (if q.rightCheck = q.check ∧ q.kind = 12 then handleReset l q (answerAside l q) s
      else answerAside l q .busy s) := by
    split
    · exact handleReset_moves _ _ _ _ fun _ _ => answerAside_moves ..
    · exact answerAside_moves ..
  unfold takeRequest
  split
  · split
    · exact handleKind_moves ..
    · exact answer_moves ..
  · exact aside
  · exact aside

theorem takeOverlong_moves : Moves s (takeOverlong l q s) := by
  unfold takeOverlong
  split
  · exact answer_moves ..
  · exact answerAside_moves ..
  · exact answerAside_moves ..

theorem requestOctet_moves (o : Octet) : Moves s (requestOctet l o s) := by
  have received : ∀ os timer, Moves s (setReception l os timer s) := fun _ _ => reply_moves (Replies.refl _)
  unfold requestOctet
  split
  · split
    · exact received ..
    · exact Moves.refl s
  · unfold receive
    dsimp only
    split
    · exact (received ..).trans (takeOverlong_moves ..)
    · split
      · exact (received ..).trans (takeRequest_moves ..)
      · exact received ..

theorem expireReception_moves : Moves s (expireReception l s) := by
  unfold expireReception
  split
  · exact reply_moves (Replies.refl _)
  · exact Moves.refl s

end requests

/-! ### Commands and steps -/

theorem frameStartStep_moves (ord : Nat) (s : State) : Moves s (frameStartStep ord s) := by
  unfold frameStartStep
  split
  · exact Move.frame.moves
  · exact Moves.refl s

theorem taken_moves {f : State → State} (moves : ∀ s, Moves s (f s)) {s t : State} (e : taken f s = .next t) :
    Moves s t := by
  unfold taken at e
  split at e
  · cases e; exact Moves.refl s
  · cases e; exact (runOn_moves s).trans (moves _)

theorem takenAlone_moves {f : State → State} (moves : ∀ s, Moves s (f s)) {s t : State}
    (e : takenAlone f s = .next t) : Moves s t := by
  unfold takenAlone at e
  split at e
  · cases e; exact Moves.refl s
  · cases e; exact moves s

theorem request_moves {l : LinkId} {kind tag : Octet} {body : List Octet} {check : Word16} {s t : State}
    (e : request l kind tag body check s = .next t) : Moves s t := taken_moves (takeRequest_moves l _) e

/-- Every command is made of moves. -/
theorem exec_moves (i : Instr) {s t : State} (e : exec i s = .next t) : Moves s t := by
  cases i with
  | trunkOctetArrival => exact taken_moves (fun _ => Move.octet.moves) e
  | lossOfSignalExpiry => exact taken_moves (fun _ => Move.signal.moves) e
  | exchangeFrameStart ord => exact taken_moves (frameStartStep_moves ord) e
  | captureCompletion l => exact takenAlone_moves (completeCapture_moves l) e
  | waitEnd => exact taken_moves (fun _ => Move.wait.moves) e
  | acquireTimeout => exact taken_moves (fun _ => Move.timeout.moves) e
  | slipWindowEnd => exact taken_moves (fun _ => Move.slipWindow.moves) e
  | stationInputEdge => exact taken_moves (fun _ => Move.edge.moves) e
  | windowEnd => exact takenAlone_moves (fun _ => Move.windowEnd.moves) e
  | activityTimerExpiry => exact taken_moves (fun _ => Move.activity.moves) e
  | commitApply => exact taken_moves (fun _ => Move.apply.moves) e
  | interOctetTimerExpiry l => exact taken_moves (expireReception_moves l) e
  | responseSent l =>
    exact taken_moves (f := fun u => u.setLink l (u.link l).sent) (fun _ => reply_moves (sent_replies _)) e
  | pinResetAssert =>
    obtain rfl : { s with pinHeld := true } = t := Host.Outcome.next.inj e
    exact Move.hold.moves
  | pinResetRelease =>
    obtain rfl : releasePart 0x02 s = t := Host.Outcome.next.inj e
    exact Move.release.moves
  | powerOnResetRelease =>
    obtain rfl : releasePart 0x01 s = t := Host.Outcome.next.inj e
    exact Move.release.moves
  | requestLineOctetArrival l o => exact taken_moves (fun s => requestOctet_moves l s o) e
  | identify | read | stage | commit | discard | lockout | unlock | force | forceHoldover | manual | releaseForced
  | releaseManual | clearWait | restart | recenter | capture | events | clearCounters | clearResetCause | mask
  | resetLink | resetPart | badKindRequest => exact request_moves e

theorem idle_moves (s : State) : Moves s (idle s) := by
  unfold idle
  split
  · exact Moves.refl s
  · split
    · exact Move.tick.moves
    · exact Move.queue.moves

/-- Every step is made of moves. -/
theorem step_moves {s t : State} (e : step s = .next t) : Moves s t := by
  unfold step at e
  split at e
  · cases e; exact idle_moves s
  · exact (Move.queue (n := s.free)).moves.trans (exec_moves _ e)

end Sys2Proof.Machine
end

section
/-! SUPPORT. The synthesizer's ranges, and its state beside the selection, through the operations of the part (7.1, R129,
R132, R133, R136 to R142). -/

namespace Sys2Proof.Machine

/-! ### The synthesizer alone -/

/-- F, I and H lie in range, R is a residue, and the history count is at most 64 (R129, R130, R142). -/
def Synth.sound (y : Synth) : Prop := InRange y.f ∧ InRange y.i ∧ InRange y.h ∧ y.r < 65536 ∧ y.history ≤ 64

theorem clampF_inRange (x : Int) : InRange (clampF x) := by
  unfold clampF InRange
  omega

theorem Synth.loopUpdate_sound (y : Synth) (band : Fin 4) (e : Int) (h : y.sound) : (y.loopUpdate band e).sound :=
  ⟨clampF_inRange _, clampF_inRange _, h.2.2⟩

theorem Synth.measure_sound (y : Synth) (band : Fin 4) (raw : Nat) (h : y.sound) : (y.measure band raw).sound := by
  unfold Synth.measure
  split
  · exact y.loopUpdate_sound band 0 h
  · exact y.loopUpdate_sound band (clampE (phaseError raw y.o)) h

@[simp] theorem Synth.measure_state (y : Synth) (band : Fin 4) (raw : Nat) : (y.measure band raw).state = y.state := by
  unfold Synth.measure
  split <;> rfl

/-- H stays between where it was and I (R141). -/
theorem Synth.keepHistory_sound (y : Synth) (h : y.sound) : y.keepHistory.sound := by
  obtain ⟨f, ⟨iLow, iHigh⟩, ⟨hLow, hHigh⟩, r, -⟩ := h
  refine ⟨f, ⟨iLow, iHigh⟩, ?_, r, bump_le 64 y.history⟩
  change InRange (y.h + (y.i - y.h) / 16)
  unfold InRange
  omega

/-- Without a selection F and I are H or F0 (R133, R150). -/
theorem Synth.release_sound (y : Synth) {f0 : Int} (trim : InRange f0) (h : y.sound) : (y.release f0).sound := by
  obtain ⟨-, -, hold, rest⟩ := h
  have chosen : InRange (if y.holdoverValid then y.h else f0) := by
    split
    · exact hold
    · exact trim
  exact ⟨chosen, chosen, hold, rest⟩

theorem Synth.warm_sound (y : Synth) {f0 : Int} (trim : InRange f0) (h : y.sound) : (y.warm f0).sound :=
  y.release_sound trim h

/-! ### What an operation keeps -/

/-- The SYNTH-CONFIG stands; under an F0 in range the synthesizer stays in range; and it stays in step with the selection. -/
structure Steady (s t : State) : Prop where
  cfg : t.cfg.synth = s.cfg.synth
  range : InRange s.cfg.synth.f0 → s.synth.sound → t.synth.sound
  follows : SynthFollows s → SynthFollows t

theorem Steady.refl (s : State) : Steady s s := ⟨rfl, fun _ h => h, fun h => h⟩

theorem Steady.trans {s t u : State} (h : Steady s t) (g : Steady t u) : Steady s u where
  cfg := g.cfg.trans h.cfg
  range trim sound := g.range (by rw [h.cfg]; exact trim) (h.range trim sound)
  follows := g.follows ∘ h.follows

/-- The synthesizer's state and the selection stand, and its numbers stay in range. -/
theorem steady_of_state {s t : State} (cfg : t.cfg.synth = s.cfg.synth) (state : t.synth.state = s.synth.state)
    (sel : t.sel.selection = s.sel.selection) (range : s.synth.sound → t.synth.sound) : Steady s t where
  cfg := cfg
  range _ := range
  follows h := by
    unfold SynthFollows
    rw [state, sel]
    exact h

/-- The synthesizer and the selection stand. -/
theorem steady_of_same {s t : State} (cfg : t.cfg.synth = s.cfg.synth) (synth : t.synth = s.synth)
    (sel : t.sel.selection = s.sel.selection) : Steady s t :=
  steady_of_state cfg (by rw [synth]) sel fun h => by rw [synth]; exact h

theorem Reports.steady {s t : State} (h : Reports s t) : Steady s t := by
  rw [h.1]
  exact steady_of_same rfl rfl rfl

theorem raise_steady (kind : EventKind) (subject : Subject) (detail : Word16) (s : State) :
    Steady s (raise kind subject detail s) := steady_of_same rfl rfl rfl
theorem setCand_steady (c : Cand) (x : Runtime) (s : State) : Steady s (s.setCand c x) := steady_of_same rfl rfl rfl
theorem setFramer_steady (n : Trunk) (x : Framer) (s : State) : Steady s (s.setFramer n x) := steady_of_same rfl rfl rfl
theorem setStore_steady (n : Trunk) (x : Store) (s : State) : Steady s (s.setStore n x) := steady_of_same rfl rfl rfl
theorem raiseAlarmFrom_steady (n : Trunk) (before : Nat) (s : State) : Steady s (raiseAlarmFrom n before s) :=
  (raiseAlarmFrom_reports ..).steady

theorem foldl_steady {α : Type} (f : State → α → State) (step : ∀ s x, Steady s (f s x)) (xs : List α) (s : State) :
    Steady s (xs.foldl f s) := foldl_reach Steady Steady.refl Steady.trans f step xs s

theorem forCands_steady (f : Cand → State → State) (step : ∀ c s, Steady s (f c s)) (s : State) :
    Steady s (forCands f s) := foldl_steady _ (fun s c => step c s) _ s

/-! ### The synthesizer and the selector -/

theorem recomputeQl_steady (s : State) : Steady s (recomputeQl s) := steady_of_state rfl rfl rfl fun h => h

theorem enterSynth_cfg (new : SynthState) (s : State) : (enterSynth new s).cfg = s.cfg := (enterSynth_steers new s).works.cfg

/-- A change of state changes the state and the exchange QL alone (R146). -/
theorem enterSynth_synth (new : SynthState) (s : State) :
    ∃ ql, (enterSynth new s).synth = { s.synth with state := new, exchangeQl := ql } := by
  unfold enterSynth
  dsimp only
  split <;> exact ⟨_, rfl⟩

theorem enterSynth_state (new : SynthState) (s : State) : (enterSynth new s).synth.state = new := by
  obtain ⟨ql, synth⟩ := enterSynth_synth new s
  rw [synth]

theorem enterSynth_sound (new : SynthState) (s : State) (h : s.synth.sound) : (enterSynth new s).synth.sound := by
  obtain ⟨ql, synth⟩ := enterSynth_synth new s
  rw [synth]
  exact h

/-- A state entered that fits the selection as it stands. -/
theorem enterSynth_follows {new : SynthState} {s : State}
    (fits : (new = .acquire ∨ new = .locked) ↔ s.sel.selection.isSome = true) : SynthFollows (enterSynth new s) := by
  unfold SynthFollows
  rw [enterSynth_state, enterSynth_sel]
  exact fits

theorem acquireSelection_sound (s : State) (trim : InRange s.cfg.synth.f0) (h : s.synth.sound) :
    (acquireSelection s).synth.sound := by
  obtain ⟨f, i, hold, rest⟩ := h
  have started : InRange (match s.synth.state with
      | .holdover => s.synth.h
      | .freerun => s.cfg.synth.f0
      | .acquire | .locked => s.synth.i) := by
    cases s.synth.state
    · exact trim
    · exact i
    · exact i
    · exact hold
  unfold acquireSelection
  exact enterSynth_sound _ _ ⟨f, started, hold, rest⟩

theorem loseSelection_sound (s : State) (trim : InRange s.cfg.synth.f0) (h : s.synth.sound) :
    (loseSelection s).synth.sound := by
  have released := s.synth.release_sound trim h
  unfold loseSelection
  split
  · exact h
  · exact h
  · exact enterSynth_sound _ _ released
  · exact enterSynth_sound _ _ released

theorem followSelection_sound (s : State) (trim : InRange s.cfg.synth.f0) (h : s.synth.sound) :
    (followSelection s).synth.sound := by
  unfold followSelection
  split
  · exact acquireSelection_sound s trim h
  · exact loseSelection_sound s trim h

/-- A synthesizer that loses its selection is in HOLDOVER or FREERUN (R133). -/
theorem loseSelection_follows (s : State) (none : s.sel.selection = none) : SynthFollows (loseSelection s) := by
  have left : ∀ u : State, u.sel = s.sel →
      SynthFollows (enterSynth (if s.synth.holdoverValid then .holdover else .freerun) u) := fun u sel =>
    enterSynth_follows (by rw [sel, none]; cases s.synth.holdoverValid <;> simp)
  have out : (s.synth.state = .holdover ∨ s.synth.state = .freerun) → SynthFollows s := fun state => by
    unfold SynthFollows
    rw [none]
    rcases state with state | state <;> simp [state]
  unfold loseSelection
  split
  · next state => exact out (.inl state)
  · next state => exact out (.inr state)
  · exact left _ rfl
  · exact left _ rfl

/-- Whatever it was before, a synthesizer that takes a selection is in step with it (R132, R133). -/
theorem followSelection_follows (s : State) : SynthFollows (followSelection s) := by
  unfold followSelection
  split
  · next c selected =>
    unfold acquireSelection
    exact enterSynth_follows (iff_of_true (.inl rfl) (by rw [State.setSynth_sel, selected]; rfl))
  · next none => exact loseSelection_follows s none

theorem select_steady (reason : Nat) (subject : Subject) (new : Option Cand) (s : State) :
    Steady s (select reason subject new s) := by
  have cfg := (select_steers reason subject new s).works.cfg
  unfold select at cfg ⊢
  dsimp only at cfg ⊢
  split
  · exact Steady.refl s
  · next changed =>
    rw [if_neg changed] at cfg
    exact ⟨congrArg Settings.synth cfg, fun trim h => followSelection_sound _ trim h, fun _ => followSelection_follows _⟩

theorem dropForcedIf_steady (p : Cand → Bool) (cause : DropCause) (s : State) : Steady s (dropForcedIf p cause s) := by
  unfold dropForcedIf
  split
  · exact steady_of_same rfl rfl rfl
  · exact Steady.refl s

theorem dropManualIf_steady (p : Cand → Bool) (cause : DropCause) (s : State) : Steady s (dropManualIf p cause s) := by
  unfold dropManualIf
  split
  · exact steady_of_same rfl rfl rfl
  · exact Steady.refl s

/-- An evaluation hands the synthesizer its selection (R106, R108). -/
theorem evaluate_steady (why : EvalCause) (ret : Option Cand) (s : State) : Steady s (evaluate why ret s) :=
  (dropManualIf_steady ..).trans (select_steady ..)

/-! ### Qualification and the monitors -/

theorem setLoop_steady (c : Cand) (v : Bool) (s : State) : Steady s (setLoop c v s) := setCand_steady ..

theorem setClass_steady (c : Cand) (new : Fin 8) (s : State) : Steady s (setClass c new s) := by
  unfold setClass
  dsimp only
  split
  · exact Steady.refl s
  · exact (setCand_steady ..).trans (raise_steady ..)

theorem tellLoss_steady (c : Cand) (s : State) : Steady s (tellLoss c s) := by
  unfold tellLoss
  split
  · exact Steady.refl s
  · exact (setCand_steady ..).trans (raise_steady ..)

theorem grade_steady (c : Cand) (s : State) : Steady s (grade c s) := by
  unfold grade
  split
  · exact (setLoop_steady ..).trans (setClass_steady ..)
  · split
    · dsimp only
      refine Steady.trans ?_ (setClass_steady ..)
      split
      · exact setLoop_steady ..
      · exact (setLoop_steady ..).trans (raise_steady ..)
    · exact (setLoop_steady ..).trans (setClass_steady ..)

theorem gradeCandidate_steady (c : Cand) (s : State) : Steady s (gradeCandidate c s) := by
  unfold gradeCandidate
  split
  · exact (tellLoss_steady ..).trans (grade_steady ..)
  · exact Steady.refl s

theorem classEvaluation_steady (s : State) : Steady s (classEvaluation s) :=
  (forCands_steady _ gradeCandidate_steady s).trans (evaluate_steady ..)

theorem loseClass_steady (c : Cand) (s : State) : Steady s (loseClass c s) := by
  unfold loseClass
  dsimp only
  split
  · exact setCand_steady ..
  · exact setClass_steady ..

theorem goInactive_steady (c : Cand) (s : State) : Steady s (goInactive c s) := by
  have lost : ∀ u : State, Steady u (loseActivity c u) := fun u => by
    have told := (setLoop_steady c false u).trans (loseClass_steady c _)
    unfold loseActivity
    dsimp only
    split
    · exact told.trans (evaluate_steady ..)
    · exact told
  unfold goInactive
  dsimp only
  split
  · exact (setCand_steady ..).trans ((raise_steady ..).trans (lost _))
  · exact Steady.refl s

theorem tellMonitors_steady (n : Trunk) (s : State) : Steady s (tellMonitors n s) :=
  forCands_steady _ (fun c s => by
    split
    · exact goInactive_steady ..
    · exact Steady.refl s) s

theorem expireActivity_steady (c : Cand) (s : State) : Steady s (expireActivity c s) := by
  unfold expireActivity
  split
  · exact goInactive_steady ..
  · exact Steady.refl s

theorem takeMarker_steady (c : Cand) (stamp : Tick) (s : State) : Steady s (takeMarker c stamp s) := by
  unfold takeMarker
  dsimp only
  split
  · exact Steady.refl s
  · exact (setCand_steady ..).trans (raise_steady ..)
  all_goals exact setCand_steady ..

theorem raiseMarker_steady (src : Source) (stamp : Tick) (s : State) : Steady s (raiseMarker src stamp s) :=
  forCands_steady _ (fun c s => by
    split
    · exact takeMarker_steady ..
    · exact Steady.refl s) s

theorem stationEdge_steady (i : Station) (s : State) : Steady s (stationEdge i s) := by
  have level : ∀ x, Steady s (s.setStation i x) := fun x =>
    steady_of_same (by rw [State.setStation_cfg]) (State.setStation_synth ..) (by rw [State.setStation_sel])
  unfold stationEdge
  dsimp only
  split
  · exact Steady.refl s
  · exact (level _).trans (raiseMarker_steady ..)

theorem endWindow_steady (c : Cand) (s : State) : Steady s (endWindow c s) := by
  unfold endWindow
  split
  · dsimp only
    split
    · exact setCand_steady ..
    · exact (setCand_steady ..).trans (raise_steady ..)
  · exact Steady.refl s

theorem resetCandidate_steady (old new : CandConfig) (c : Cand) (s : State) : Steady s (resetCandidate old new c s) := by
  have restarted : ∀ u : State, Steady u (restartCandidate new.enabled c u) := fun u =>
    (setCand_steady ..).trans (raise_steady ..)
  unfold resetCandidate
  split
  · exact Steady.refl s
  · refine Steady.trans ?_ (restarted _)
    split
    · exact Steady.refl s
    · exact tellLoss_steady ..

theorem countWaitsAt_steady (e : Epoch) (s : State) : Steady s (countWaitsAt e s) :=
  forCands_steady _ (fun _ _ => setCand_steady ..) s

theorem endWait_steady (c : Cand) (s : State) : Steady s (endWait c s) := by
  unfold endWait
  split
  · exact countWaitsAt_steady ..
  · exact Steady.refl s

/-! ### Acquire timeouts and the phase sample -/

theorem takeTimeout_steady (c : Cand) (s : State) : Steady s (takeTimeout c s) := by
  have failed := setCand_steady c { s.cands[c] with lockFail := true } s
  unfold takeTimeout
  dsimp only
  split
  · exact failed
  · refine Steady.trans ?_ (evaluate_steady ..)
    split
    · exact failed.trans (setCand_steady ..)
    · exact failed

theorem takeHandedTimeout_steady (s : State) : Steady s (takeHandedTimeout s) := by
  unfold takeHandedTimeout
  split
  · exact Steady.refl s
  · next c cs _ =>
    have taken : Steady s (s.setSel { s.sel with timeouts := cs }) := steady_of_same rfl rfl rfl
    exact taken.trans (takeTimeout_steady ..)

theorem timeOut_steady (c : Cand) (s : State) : Steady s (timeOut c s) := steady_of_state rfl rfl rfl fun h => h

theorem acquireTimeoutStep_steady (s : State) : Steady s (acquireTimeoutStep s) := by
  have reached : Steady s (timeOutIfReached s) := by
    unfold timeOutIfReached
    split
    · split
      · exact timeOut_steady ..
      · exact Steady.refl s
    · exact Steady.refl s
  exact reached.trans (takeHandedTimeout_steady _)

/-- Counters of the synthesizer alone. -/
theorem setSynth_steady {s : State} {y : Synth} (state : y.state = s.synth.state) (range : s.synth.sound → y.sound) :
    Steady s (s.setSynth y) := steady_of_state rfl state rfl range

/-- While a candidate is selected the synthesizer may enter ACQUIRE and LOCKED (R138, R139). -/
theorem enterSynth_steady {new : SynthState} {s : State} (pulled : new = .acquire ∨ new = .locked)
    (selected : s.sel.selection.isSome = true) : Steady s (enterSynth new s) where
  cfg := by rw [enterSynth_cfg]
  range _ := enterSynth_sound new s
  follows _ := enterSynth_follows (iff_of_true pulled selected)

/-- A sample in ACQUIRE counts, locks or times out (R138, R140). -/
theorem countAcquire_steady (c : Cand) (s : State) (selected : s.sel.selection.isSome = true) :
    Steady s (countAcquire c s) := by
  unfold countAcquire
  dsimp only
  generalize (if s.synth.lastD.natAbs ≤ 4 then bump 8 s.synth.lockCount else 0) = lock
  have counted : Steady s (s.setSynth { s.synth with
      acquireTimer := bump Config.acquireSamples s.synth.acquireTimer, lockCount := lock }) :=
    setSynth_steady rfl fun h => h
  split
  · refine counted.trans (Steady.trans ?_ ((enterSynth_steady (.inr rfl) ?_).trans (setCand_steady ..)))
    · exact setSynth_steady rfl fun h => h
    · exact selected
  · split
    · exact counted.trans (timeOut_steady ..)
    · exact counted

/-- A sample in LOCKED enters the history, or loses the lock (R139, R141). -/
theorem countLocked_steady (c : Cand) (s : State) (selected : s.sel.selection.isSome = true) :
    Steady s (countLocked c s) := by
  have kept : ∀ u : State, Steady u (u.setSynth u.synth.keepHistory) := fun u =>
    setSynth_steady rfl u.synth.keepHistory_sound
  unfold countLocked
  dsimp only
  generalize (if 32 < s.synth.lastD.natAbs then bump 2 s.synth.lossCount else 0) = loss
  split
  · refine Steady.trans ?_ (enterSynth_steady (.inl rfl) ?_)
    · exact setSynth_steady rfl fun h => h
    · exact selected
  · have counted : Steady s (s.setSynth { s.synth with lossCount := loss }) := setSynth_steady rfl fun h => h
    unfold recordHistory
    dsimp only
    split
    · exact counted.trans ((kept _).trans (raise_steady ..))
    · exact counted.trans (kept _)

theorem phaseSample_steady (s : State) : Steady s (phaseSample s) := by
  unfold phaseSample
  split
  · exact Steady.refl s
  · next c selection =>
    split
    · exact Steady.refl s
    · next marker _ =>
      have selected : s.sel.selection.isSome = true := by rw [selection]; rfl
      have measured : Steady s
          (s.setSynth (s.synth.measure s.cfg.synth.band (rawPhase s.gen.frameStart marker))) :=
        setSynth_steady (Synth.measure_state ..) (Synth.measure_sound _ _ _)
      dsimp only
      split
      · exact measured.trans (countAcquire_steady c _ selected)
      · exact measured.trans (countLocked_steady c _ selected)
      · exact Steady.refl s
      · exact Steady.refl s

/-! ### The stores and the framers -/

theorem slip_steady (n : Trunk) (kind : SlipKind) (held : Nat) (s : State) : Steady s (slip n kind held s) := by
  unfold slip
  dsimp only
  split <;> exact steady_of_same rfl rfl rfl

theorem storeArrival_steady (n : Trunk) (r : FrameRecord) (s : State) : Steady s (storeArrival n r s) := by
  unfold storeArrival
  dsimp only
  split
  · exact Steady.refl s
  · exact setStore_steady ..
  · split
    · exact setStore_steady ..
    · exact (setStore_steady ..).trans (slip_steady ..)

/-- Leaving alignment reaches the synthesizer through the monitors and the selector (R17). -/
theorem leaveAligned_steady (n : Trunk) (new : FramerState) (before : Option Nat) (s : State) :
    Steady s (leaveAligned n new before s) := by
  have left : ∀ x, Steady s (raiseTrunkState n s.framers[n].state new
      ((tellMonitors n (s.setStore n s.stores[n].flush)).setFramer n x)) := fun x =>
    (setStore_steady ..).trans ((tellMonitors_steady ..).trans ((setFramer_steady ..).trans (raise_steady ..)))
  unfold leaveAligned
  dsimp only
  split
  · exact (left _).trans (raiseAlarmFrom_steady ..)
  · exact left _

/-- A completed frame may move the QL and so the exchange QL (R15, R146). -/
theorem completeFrame_steady (n : Trunk) (a : Alignment) (octets : List Octet) (before : Nat) (s : State) :
    Steady s (completeFrame n a octets before s) := by
  have done : ∀ x r F, Steady s (recomputeQl ((storeArrival n r (s.setStore n x)).setFramer n F)) := fun x r F =>
    (setStore_steady ..).trans ((storeArrival_steady ..).trans ((setFramer_steady ..).trans (recomputeQl_steady _)))
  unfold completeFrame
  dsimp only
  split
  · exact (done ..).trans (leaveAligned_steady ..)
  · exact (done ..).trans (raiseAlarmFrom_steady ..)

theorem joinFrame_steady (n : Trunk) (o : Octet) (s : State) : Steady s (joinFrame n o s) := setStore_steady ..

theorem alignedOctet_steady (n : Trunk) (a : Alignment) (o : Octet) (before : Nat) (s : State) :
    Steady s (alignedOctet n a o before s) := by
  unfold alignedOctet
  dsimp only
  split
  · exact (setFramer_steady ..).trans (joinFrame_steady ..)
  · exact (setFramer_steady ..).trans ((joinFrame_steady ..).trans (raiseMarker_steady ..))
  · split
    · exact joinFrame_steady ..
    · exact completeFrame_steady ..

theorem enterAligned_steady (n : Trunk) (f : Fin 16) (o : Octet) (s : State) : Steady s (enterAligned n f o s) :=
  (setFramer_steady ..).trans ((raise_steady ..).trans ((setStore_steady ..).trans (raiseMarker_steady ..)))

theorem handleOctet_steady (n : Trunk) (o : Octet) (before : Nat) (s : State) : Steady s (handleOctet n o before s) := by
  unfold handleOctet
  dsimp only
  split
  · exact Steady.refl s
  · exact (setFramer_steady ..).trans (raise_steady ..)
  · exact setFramer_steady ..
  · unfold confirmOctet
    dsimp only
    split
    · split
      · exact setFramer_steady ..
      · exact enterAligned_steady ..
    · exact setFramer_steady ..
  · exact alignedOctet_steady ..

theorem octetArrival_steady (n : Trunk) (o : Octet) (s : State) : Steady s (octetArrival n o s) := by
  unfold octetArrival
  dsimp only
  split
  · exact Steady.refl s
  · split
    · exact (setFramer_steady ..).trans (handleOctet_steady ..)
    · exact (setFramer_steady ..).trans ((raiseAlarmFrom_steady ..).trans (handleOctet_steady ..))

theorem expireSignal_steady (n : Trunk) (s : State) : Steady s (expireSignal n s) := by
  have lost : ∀ x y a b, Steady s (raiseAlarmFrom n a (raiseTrunkState n b .noSignal ((s.setFramer n x).setFramer n y))) :=
    fun x y a b => (setFramer_steady ..).trans ((setFramer_steady ..).trans ((raise_steady ..).trans
      (raiseAlarmFrom_steady ..)))
  unfold expireSignal
  split
  · dsimp only
    split
    · exact Steady.refl s
    · exact (setFramer_steady ..).trans (raiseAlarmFrom_steady ..)
    · exact lost ..
    · exact lost ..
    · exact (setFramer_steady ..).trans (leaveAligned_steady ..)
  · exact Steady.refl s

theorem enableTrunk_steady (n : Trunk) (w : Bool) (s : State) : Steady s (enableTrunk n w s) :=
  (setFramer_steady ..).trans ((setStore_steady ..).trans (raise_steady ..))

theorem disableTrunk_steady (n : Trunk) (s : State) : Steady s (disableTrunk n s) := by
  have left : Steady s (if s.framers[n].state.isAligned then leaveAligned n .off none s
      else raiseTrunkState n s.framers[n].state .off s) := by
    split
    · exact leaveAligned_steady ..
    · exact raise_steady ..
  unfold disableTrunk
  dsimp only
  generalize (if s.framers[n].state.isAligned then leaveAligned n .off none s
      else raiseTrunkState n s.framers[n].state .off s) = u at left ⊢
  refine left.trans ((setFramer_steady n { Framer.reset with alignErrors := u.framers[n].alignErrors } u).trans
    ((raiseAlarmFrom_steady n s.framers[n].alarms _).trans ?_))
  split
  · exact (setStore_steady ..).trans (raise_steady ..)
  · exact setStore_steady ..

theorem restartTrunk_steady (n : Trunk) (s : State) : Steady s (restartTrunk n s) := by
  unfold restartTrunk
  dsimp only
  split
  · exact Steady.refl s
  · exact Steady.refl s
  · exact setFramer_steady ..
  · exact setFramer_steady ..
  · exact leaveAligned_steady ..

/-! ### SWITCH actions -/

theorem onCandidate_steady (operand : Octet) (f : Cand → State → Status × State) (s : State)
    (step : ∀ c, Steady s (f c s).2) : Steady s (onCandidate operand f s).2 := by
  unfold onCandidate
  split
  · exact step _
  · exact Steady.refl s

/-- Requests and lockouts change, then an evaluation is taken (R112 to R118). -/
theorem evaluate_setSel_steady {s : State} {x : Selector} (selection : x.selection = s.sel.selection) (why : EvalCause)
    (ret : Option Cand) : Steady s (evaluate why ret (s.setSel x)) :=
  (steady_of_same rfl rfl selection : Steady s (s.setSel x)).trans (evaluate_steady ..)

theorem switchAction_steady (l : LinkId) (action operand option : Octet) (s : State) :
    Steady s (switchAction l action operand option s).2 := by
  unfold switchAction
  split
  · refine onCandidate_steady _ _ _ fun c => ?_
    have locked : Steady s (s.setSel { s.sel with lockout := s.sel.lockout.set c true }) := steady_of_same rfl rfl rfl
    exact locked.trans ((dropForcedIf_steady ..).trans ((dropManualIf_steady ..).trans (evaluate_steady ..)))
  · refine onCandidate_steady _ _ _ fun c => ?_
    unfold unlockAction
    split
    · exact evaluate_setSel_steady (by rfl) ..
    · exact Steady.refl s
  · refine onCandidate_steady _ _ _ fun c => ?_
    unfold forceAction
    split
    · exact Steady.refl s
    · split
      · exact Steady.refl s
      · exact evaluate_setSel_steady (by rfl) ..
  · exact evaluate_setSel_steady (by rfl) ..
  · refine onCandidate_steady _ _ _ fun c => ?_
    unfold manualAction
    split
    · exact Steady.refl s
    · split
      · exact Steady.refl s
      · split
        · exact Steady.refl s
        · exact evaluate_setSel_steady (by rfl) ..
  · split
    · unfold releaseForcedAction
      split
      · exact Steady.refl s
      · exact evaluate_setSel_steady (by rfl) ..
    · split
      · unfold releaseManualAction
        split
        · exact Steady.refl s
        · exact evaluate_setSel_steady (by rfl) ..
      · exact Steady.refl s
  · refine onCandidate_steady _ _ _ fun c => ?_
    unfold clearWaitAction
    split
    · exact (setCand_steady ..).trans (evaluate_steady ..)
    · exact Steady.refl s
  · exact Steady.refl s

end Sys2Proof.Machine
end

section
/-! OBLIGATION. Every step keeps the synthesizer in range and in step with the selection (7.1, R51, R128 to R133, R142). -/

namespace Sys2Proof.Machine

/-! ### The ranges through an operation that stages nothing and produces no frame length -/

theorem SynthInRange.trim {s : State} (h : SynthInRange s) : InRange s.cfg.synth.f0 := by
  obtain ⟨-, -, -, -, -, -, trim, -⟩ := h
  exact trim

theorem synthInRange_iff (s : State) :
    SynthInRange s ↔ s.synth.sound
      ∧ (s.gen.frameLength = 3071 ∨ s.gen.frameLength = 3072 ∨ s.gen.frameLength = 3073)
      ∧ InRange s.cfg.synth.f0 ∧ ∀ l, ∀ v ∈ (s.link l).staging, v.trimInRange := by
  simp only [SynthInRange, Synth.sound, and_assoc]

theorem SynthInRange.carry {s t : State} (h : SynthInRange s) (steady : Steady s t)
    (length : t.gen.frameLength = s.gen.frameLength)
    (staging : ∀ l, ∀ v ∈ (t.link l).staging, v ∈ (s.link l).staging) : SynthInRange t := by
  obtain ⟨sound, lengths, trim, staged⟩ := (synthInRange_iff s).mp h
  refine (synthInRange_iff t).mpr ⟨steady.range trim sound, ?_, ?_, fun l v hv => staged l v (staging l v hv)⟩
  · rw [length]
    exact lengths
  · rw [steady.cfg]
    exact trim

theorem Heard.staging {k k' : Link} (h : Heard k k') : k'.staging = k.staging := by
  obtain ⟨more, full, rfl⟩ := h
  rfl

theorem SynthInRange.works {s t : State} (h : SynthInRange s) (works : Works s t) (steady : Steady s t) :
    SynthInRange t :=
  h.carry steady (by rw [works.gen]) fun l v hv => by
    rw [(works.heard l).staging] at hv
    exact hv

theorem SynthInRange.outputs {s : State} (h : SynthInRange s) (out : Outputs) : SynthInRange { s with out := out } :=
  h.carry (steady_of_same rfl rfl rfl) rfl fun l v hv => by cases l <;> exact hv

/-- A link written with no more staged than it had. -/
theorem SynthInRange.setLink {s : State} (h : SynthInRange s) (l : LinkId) {k : Link}
    (staging : ∀ v ∈ k.staging, v.trimInRange) : SynthInRange (s.setLink l k) := by
  obtain ⟨sound, lengths, trim, staged⟩ := (synthInRange_iff s).mp h
  refine (synthInRange_iff _).mpr ⟨by simpa using sound, by simpa using lengths, by simpa using trim, fun m => ?_⟩
  by_cases same : m = l
  · rw [same, State.link_setLink]
    exact staging
  · rw [State.link_setLink_other _ _ _ _ same]
    exact staged m

theorem SynthInRange.staged {s : State} (h : SynthInRange s) (l : LinkId) : ∀ v ∈ (s.link l).staging, v.trimInRange := by
  obtain ⟨-, -, -, staged⟩ := (synthInRange_iff s).mp h
  exact staged l

theorem setLink_steady (l : LinkId) (k : Link) (s : State) : Steady s (s.setLink l k) := by
  cases l <;> exact steady_of_same rfl rfl rfl

/-! ### Staged values (R128, R158) -/

/-- A staged value is for the item it was staged for, and an F0 in it is in range. -/
theorem stagedValue_spec {it : StageItem} {os : List Octet} {v : ItemValue} (h : stagedValue it os = some v) :
    v.item = it ∧ v.trimInRange := by
  unfold stagedValue at h
  split at h
  · cases h; exact ⟨rfl, trivial⟩
  · obtain ⟨x, -, rfl⟩ := Option.map_eq_some_iff.mp h; exact ⟨rfl, trivial⟩
  · cases h; exact ⟨rfl, trivial⟩
  · obtain ⟨x, -, rfl⟩ := Option.map_eq_some_iff.mp h; exact ⟨rfl, trivial⟩
  · obtain ⟨x, -, rfl⟩ := Option.map_eq_some_iff.mp h; exact ⟨rfl, trivial⟩
  · cases h; exact ⟨rfl, trivial⟩
  · obtain ⟨x, -, rfl⟩ := Option.map_eq_some_iff.mp h; exact ⟨rfl, trivial⟩
  · cases h; exact ⟨rfl, trivial⟩
  · obtain ⟨x, staged, rfl⟩ := Option.map_eq_some_iff.mp h
    refine ⟨rfl, ?_⟩
    unfold synthConfigOf at staged
    split at staged
    · cases staged
      exact clampF_inRange _
    · exact absurd staged nofun
  · obtain ⟨x, -, rfl⟩ := Option.map_eq_some_iff.mp h; exact ⟨rfl, trivial⟩
  · exact absurd h nofun

theorem placeStaged_trim {staged : List ItemValue} {v : ItemValue} (h : ∀ w ∈ staged, w.trimInRange)
    (new : v.trimInRange) : ∀ w ∈ placeStaged staged v, w.trimInRange := by
  intro w hw
  rcases List.mem_append.mp hw with old | added
  · exact h w (List.mem_filter.mp old).1
  · rw [List.mem_singleton.mp added]
    exact new

theorem put_trim (k : Settings) (v : ItemValue) (old : InRange k.synth.f0) (new : v.trimInRange) :
    InRange (k.put v).synth.f0 := by
  cases v with
  | synth => exact new
  | lane p => cases p <;> exact old
  | pattern p => cases p <;> exact old
  | output n =>
    unfold Settings.put
    dsimp only
    split <;> exact old
  | trunk | candidate | rule | loopGuard | selector | monitor => exact old

/-- Values with an F0 in range, put in place one after another, leave an F0 in range. -/
theorem merge_trim (staged : List ItemValue) (k : Settings) (old : InRange k.synth.f0)
    (new : ∀ v ∈ staged, v.trimInRange) : InRange (k.merge staged).synth.f0 := by
  unfold Settings.merge
  induction staged generalizing k with
  | nil => exact old
  | cons v vs ih =>
    exact ih (k.put v) (put_trim k v old (new v (List.mem_cons_self ..))) fun w hw => new w (List.mem_cons_of_mem _ hw)

/-! ### A frame start -/

theorem readStore_steady (n : Trunk) (s : State) : Steady s (readStore n s) := by
  have read : Steady s (match s.stores[n].delivers with
      | .fresh r => s.setStore n (s.stores[n].deliverFresh r s.gen.tick)
      | .repeated _ => slip n .repeated 0 s
      | .idle => s) := by
    split
    · exact setStore_steady ..
    · exact slip_steady ..
    · exact Steady.refl s
  exact read.trans (steady_of_same rfl rfl rfl)

/-- The residue of the frame length stays a residue (R130). -/
theorem produceLength_steady (s : State) : Steady s (produceLength s) := by
  refine steady_of_state rfl rfl rfl fun ⟨f, i, h, r, history⟩ => ⟨f, i, h, ?_, history⟩
  change (((s.synth.r : Int) + s.synth.f) % 65536).toNat < 65536
  omega

theorem frameUnit_steady (u : FrameUnit) (s : State) : Steady s (u.take s) := by
  cases u with
  | length => exact produceLength_steady s
  | frameQl => exact steady_of_same rfl rfl rfl
  | classes => exact classEvaluation_steady s
  | waits => exact countWaitsAt_steady s.gen.epoch s
  | timeout => exact takeHandedTimeout_steady s
  | sample => exact phaseSample_steady s
  | read n => exact readStore_steady n s

/-- With F in range and R a residue the quotient is −1, 0 or 1 (R130). -/
theorem quotient_cases {r : Nat} {f : Int} (inRange : InRange f) (residue : r < 65536) :
    ((r : Int) + f) / 65536 = -1 ∨ ((r : Int) + f) / 65536 = 0 ∨ ((r : Int) + f) / 65536 = 1 := by
  unfold InRange at inRange
  omega

theorem produceLength_lengths {s : State} (sound : s.synth.sound) :
    (produceLength s).gen.frameLength = 3071 ∨ (produceLength s).gen.frameLength = 3072
      ∨ (produceLength s).gen.frameLength = 3073 := by
  obtain ⟨f, -, -, r, -⟩ := sound
  have quotient := quotient_cases f r
  change (3072 - ((s.synth.r : Int) + s.synth.f) / 65536).toNat = 3071
    ∨ (3072 - ((s.synth.r : Int) + s.synth.f) / 65536).toNat = 3072
    ∨ (3072 - ((s.synth.r : Int) + s.synth.f) / 65536).toNat = 3073
  omega

theorem handCapture_staging (k : Link) (n : Trunk) (copy : CaptureRecord) :
    (k.handCapture n copy).staging = k.staging := by
  unfold Link.handCapture
  split
  · split
    · split <;> rfl
    all_goals rfl
  · rfl

theorem readStore_staging (n : Trunk) (s : State) (l : LinkId) :
    ((readStore n s).link l).staging = (s.link l).staging := by
  have read : ((match s.stores[n].delivers with
      | .fresh r => s.setStore n (s.stores[n].deliverFresh r s.gen.tick)
      | .repeated _ => slip n .repeated 0 s
      | .idle => s).link l).staging = (s.link l).staging := by
    split
    · rw [State.setStore_link]
    · exact ((slip_works ..).heard l).staging
    · rfl
  refine Eq.trans ?_ read
  cases l <;> exact handCapture_staging ..

theorem frameUnit_inRange (u : FrameUnit) (s : State) (h : SynthInRange s) : SynthInRange (u.take s) := by
  have steady := frameUnit_steady u s
  cases u with
  | length =>
    obtain ⟨sound, -, trim, staged⟩ := (synthInRange_iff s).mp h
    exact (synthInRange_iff _).mpr
      ⟨steady.range trim sound, produceLength_lengths sound, trim, fun l => by cases l; exacts [staged .a, staged .b]⟩
  | frameQl => exact h.carry steady rfl fun l v hv => by cases l <;> exact hv
  | classes => exact h.works (classEvaluation_grades s).works steady
  | waits => exact h.works (countWaits_grades s).works steady
  | timeout => exact h.works (takeHandedTimeout_grades s).works steady
  | sample => exact h.works (phaseSample_grades s).works steady
  | read n => exact h.carry steady (congrArg _ (readStore_gen n s)) fun l v hv => (readStore_staging n s l) ▸ hv

theorem startFrame_eq (ord : Nat) (s : State) :
    startFrame ord s
      = outputsFixed (unitsDone (unitOrder ord ((advanceGenerator s).gen.frameNumber == 0)) s) := rfl

theorem outputsFixed_steady (s : State) : Steady s (outputsFixed s) := by
  rw [(outputsFixed_shape s).1]
  exact steady_of_same rfl rfl rfl

theorem startFrame_steady (ord : Nat) (s : State) : Steady s (startFrame ord s) := by
  have begun : Steady s (advanceGenerator s) := steady_of_same rfl rfl rfl
  rw [startFrame_eq]
  exact begun.trans ((foldl_steady _ (fun s u => frameUnit_steady u s) _ _).trans (outputsFixed_steady _))

theorem startFrame_inRange (ord : Nat) (s : State) (h : SynthInRange s) : SynthInRange (startFrame ord s) := by
  have begun : SynthInRange (advanceGenerator s) :=
    h.carry (steady_of_same rfl rfl rfl) rfl fun l v hv => by cases l <;> exact hv
  have units : ∀ us, SynthInRange (unitsDone us s) := fun us =>
    foldl_keeps SynthInRange _ us _ begun fun t u ht => frameUnit_inRange u t ht
  rw [startFrame_eq, (outputsFixed_shape _).1]
  exact (units _).outputs _

/-! ### Window ends -/

theorem endSlipWindow_steady (n : Trunk) (s : State) : Steady s (endSlipWindow n s) := by
  have ended : ∀ e u, Steady u (endStoreWindow n e u) := fun e u => by
    unfold endStoreWindow
    dsimp only
    split
    · split
      · exact (setStore_steady ..).trans (raise_steady ..)
      · exact setStore_steady ..
    · exact setStore_steady ..
  unfold endSlipWindow
  split
  · exact Steady.refl s
  · next e _ =>
    have begins : Steady s { s with gen := { s.gen with epoch := e } } := steady_of_same rfl rfl rfl
    exact begins.trans ((ended e _).trans (steady_of_same rfl rfl rfl))

theorem endSlipWindow_inRange (n : Trunk) (s : State) (h : SynthInRange s) : SynthInRange (endSlipWindow n s) := by
  have steady := endSlipWindow_steady n s
  unfold endSlipWindow at steady ⊢
  split
  · exact h
  · next e due =>
    rw [due] at steady
    have ended := endStoreWindow_works n e { s with gen := { s.gen with epoch := e } }
    have length := congrArg Generator.frameLength ended.gen
    refine h.carry steady length fun l v hv => ?_
    have staging := (ended.heard l).staging
    cases l <;> exact staging ▸ hv

/-! ### An apply -/

theorem applyTrunk_steady (old : Settings) (n : Trunk) (s : State) : Steady s (applyTrunk old n s) := by
  unfold applyTrunk
  split
  · exact Steady.refl s
  · split
    · exact enableTrunk_steady ..
    · exact disableTrunk_steady ..

theorem applyUnit_steady (old : Settings) (u : ApplyUnit) (s : State) : Steady s (u.take old s) := by
  cases u with
  | trunk n => exact applyTrunk_steady old n s
  | candidate c => exact resetCandidate_steady ..

theorem applyUnder_steady (ord : Nat) (old : Settings) (s : State) : Steady s (applyUnder ord old s) := by
  have policy : Steady s { s with cfg := s.cfg.withPolicy old } := steady_of_same rfl rfl rfl
  have units := policy.trans (foldl_steady (fun s (u : ApplyUnit) => u.take old s)
    (fun s u => applyUnit_steady old u s) (inOrder ord applyUnits) _)
  exact ⟨rfl, units.range, units.follows⟩

/-- A new F0 in FREERUN is taken as F and I (R144). -/
theorem applySynth_steady (old : Settings) (s : State) : Steady s (applySynth old s) := by
  unfold applySynth
  refine Steady.trans ?_ (recomputeQl_steady _)
  split
  · exact ⟨rfl, fun trim ⟨_, _, rest⟩ => ⟨trim, trim, rest⟩, fun h => h⟩
  · exact Steady.refl s

theorem applySelector_steady (l : LinkId) (s : State) : Steady s (applySelector l s) :=
  (dropForcedIf_steady ..).trans ((dropManualIf_steady ..).trans (evaluate_steady ..))

theorem applyBlocks_steady (ord : Nat) (old : Settings) (started : Bool) (l : LinkId) (s : State) :
    Steady s (applyBlocks ord old started l s) := by
  have lanes : ∀ u, Steady u (bothLanes old u) := fun u => by
    rw [bothLanes_eq]
    exact steady_of_same rfl rfl rfl
  have units := applyUnder_steady ord old s
  rw [applyBlocks_eq]
  refine Steady.trans ?_ ((applySynth_steady ..).trans (applySelector_steady ..))
  split
  · exact units.trans (lanes _)
  · exact units

theorem commitDue_start {s : State} {l : LinkId} (due : commitDue s = some l) : ∃ e, s.multiframeAt = some e := by
  unfold commitDue at due
  split at due
  · split at due
    · next start => exact ⟨_, start⟩
    · exact absurd due nofun
  · exact absurd due nofun

section blocks
variable (ord : Nat) (l : LinkId) (e : Epoch) (s : State)

theorem blocksDone_follows (h : SynthFollows s) : SynthFollows (blocksDone ord l e s) :=
  (applyBlocks_steady ord s.cfg (!s.startDue) l (installed l e s)).follows h

/-- The F0 of the new configuration is a staged one or the old one, and the blocks act under it (R144, R160). -/
theorem blocksDone_inRange (h : SynthInRange s) : SynthInRange (blocksDone ord l e s) := by
  obtain ⟨sound, lengths, trim, staged⟩ := (synthInRange_iff s).mp h
  have merged : InRange (installed l e s).cfg.synth.f0 := merge_trim _ _ trim (staged l)
  have steady := applyBlocks_steady ord s.cfg (!s.startDue) l (installed l e s)
  have cfg : (blocksDone ord l e s).cfg.synth = (installed l e s).cfg.synth := steady.cfg
  refine (synthInRange_iff _).mpr ⟨steady.range merged sound, lengths, by rw [cfg]; exact merged, fun m v hv => ?_⟩
  rw [(blocksDone_heard ord l e s m).staging] at hv
  exact staged m v hv

end blocks

theorem applyCommit_cases (ord : Nat) (s : State) :
    applyCommit ord s = s
      ∨ ∃ (l : LinkId) (e : Epoch) (k : Link), k.staging = [] ∧ applyCommit ord s
          = ({ blocksDone ord l e s with commit := none, applied := true } : State).setLink l k := by
  cases due : commitDue s with
  | none =>
    left
    unfold applyCommit
    rw [due]
  | some l =>
    obtain ⟨e, start⟩ := commitDue_start due
    obtain ⟨k, empty, shape⟩ := applyDone_shape ord l e s
    exact .inr ⟨l, e, k, empty, (applyCommit_due ord due start).trans shape⟩

theorem commitTaken_steady (s : State) : Steady s { s with commit := none, applied := true } :=
  steady_of_same rfl rfl rfl

theorem commitTaken_inRange (s : State) (h : SynthInRange s) :
    SynthInRange { s with commit := none, applied := true } :=
  h.carry (commitTaken_steady s) rfl fun m v hv => by cases m <;> exact hv

theorem applyCommit_follows (ord : Nat) (s : State) (h : SynthFollows s) : SynthFollows (applyCommit ord s) := by
  obtain same | ⟨l, e, k, -, shape⟩ := applyCommit_cases ord s
  · rw [same]
    exact h
  · rw [shape]
    exact ((commitTaken_steady _).trans (setLink_steady ..)).follows (blocksDone_follows ord l e s h)

theorem applyCommit_inRange (ord : Nat) (s : State) (h : SynthInRange s) : SynthInRange (applyCommit ord s) := by
  obtain same | ⟨l, e, k, empty, shape⟩ := applyCommit_cases ord s
  · rw [same]
    exact h
  · rw [shape]
    exact (commitTaken_inRange _ (blocksDone_inRange ord l e s h)).setLink l (by rw [empty]; exact List.forall_mem_nil _)

/-! ### Resets, reads and counters -/

/-- A warm reset leaves no selection, and the synthesizer in HOLDOVER or FREERUN (R127, R150). -/
theorem warmReset_steady (l : LinkId) (s : State) : Steady s (warmReset l s) := by
  rw [warmReset_shape]
  refine ⟨rfl, fun trim sound => s.synth.warm_sound trim sound, fun _ => ?_⟩
  change ((warmBlocks s).synth.state = .acquire ∨ (warmBlocks s).synth.state = .locked) ↔ false = true
  rw [warmBlocks_synth]
  dsimp only
  split <;> simp

theorem warmReset_inRange (l : LinkId) (s : State) (h : SynthInRange s) : SynthInRange (warmReset l s) := by
  refine h.carry (warmReset_steady l s) (by rw [warmReset_shape]) fun m v hv => ?_
  rw [warmReset_link, (offer_heard ..).staging] at hv
  exact absurd hv List.not_mem_nil

theorem clearWanders_works (l : LinkId) (s : State) : Works s (clearWanders l s) := by
  unfold clearWanders
  exact ⟨rfl, Heard.refl _, Heard.refl _⟩

theorem clearWanders_steady (l : LinkId) (s : State) : Steady s (clearWanders l s) := by
  unfold clearWanders
  exact steady_of_same rfl rfl rfl

theorem setCommit_steady (s : State) (x : Option PendingCommit) : Steady s { s with commit := x } :=
  steady_of_same rfl rfl rfl

theorem restartLink_steady (l : LinkId) (s : State) : Steady s (restartLink l s) :=
  (setCommit_steady s _).trans ((clearWanders_steady l _).trans (setLink_steady ..))

theorem restartLink_inRange (l : LinkId) (s : State) (h : SynthInRange s) : SynthInRange (restartLink l s) := by
  have abandoned : SynthInRange { s with commit := if commitFrom s l then none else s.commit } :=
    h.carry (setCommit_steady s _) rfl fun m v hv => by cases m <;> exact hv
  exact (abandoned.works (clearWanders_works l _) (clearWanders_steady l _)).setLink l (List.forall_mem_nil _)

theorem afterRead_works (l : LinkId) (it : StatusItem) (s : State) : Works s (afterRead l it s) := by
  unfold afterRead
  split
  · exact setStore_works ..
  all_goals exact Works.refl s

theorem afterRead_steady (l : LinkId) (it : StatusItem) (s : State) : Steady s (afterRead l it s) := by
  unfold afterRead
  split
  · exact setStore_steady ..
  all_goals exact Steady.refl s

theorem clearCounters_works (s : State) : Works s (clearCounters s) := by
  unfold clearCounters
  exact ⟨rfl, Heard.refl _, Heard.refl _⟩

theorem clearCounters_steady (s : State) : Steady s (clearCounters s) := by
  unfold clearCounters
  exact steady_of_same rfl rfl rfl

theorem releasePart_inRange (cause : Octet) (s : State) : SynthInRange (releasePart cause s) := by
  have zero : InRange 0 := by unfold InRange; omega
  exact ⟨zero, zero, zero, Nat.zero_lt_succ _, Nat.zero_le _, .inr (.inl rfl), zero,
    fun l => by cases l <;> exact List.forall_mem_nil _⟩

theorem releasePart_follows (cause : Octet) (s : State) : SynthFollows (releasePart cause s) :=
  iff_of_false (by rintro (h | h) <;> exact absurd h nofun) nofun

/-! ### Every move -/

/-- Each move leaves the synthesizer in step with the selection (7.1, R132, R133). -/
theorem Move.follows {s t : State} (move : Move s t) (h : SynthFollows s) : SynthFollows t := by
  cases move with
  | reply | stage | discard | deliver => exact (setLink_steady ..).follows h
  | commit | cause | queue | hold | tick => exact h
  | release => exact releasePart_follows ..
  | octet => exact (octetArrival_steady ..).follows h
  | signal => exact (expireSignal_steady ..).follows h
  | frame => exact (startFrame_steady ..).follows h
  | windowEnd => exact (endWindow_steady ..).follows h
  | wait => exact (endWait_steady ..).follows h
  | timeout => exact (acquireTimeoutStep_steady _).follows h
  | slipWindow => exact (endSlipWindow_steady ..).follows h
  | edge => exact (stationEdge_steady ..).follows h
  | activity => exact (expireActivity_steady ..).follows h
  | apply => exact applyCommit_follows _ s h
  | switch => exact (switchAction_steady ..).follows h
  | restart => exact (restartTrunk_steady ..).follows h
  | recenter => exact (setStore_steady ..).follows h
  | counters => exact ((clearCounters_steady s).trans (raise_steady ..)).follows h
  | read => exact (afterRead_steady ..).follows h
  | resetLink => exact (restartLink_steady ..).follows h
  | resetPart => exact (warmReset_steady ..).follows h

theorem stationEdge_inRange (i : Station) (s : State) (h : SynthInRange s) : SynthInRange (stationEdge i s) := by
  have level : ∀ x, SynthInRange (s.setStation i x) := fun x => by
    cases i <;> exact h.carry (steady_of_same rfl rfl rfl) rfl fun m v hv => by cases m <;> exact hv
  unfold stationEdge
  dsimp only
  split
  · exact h
  · exact (level _).works (raiseMarker_grades ..).works (raiseMarker_steady ..)

/-- Each move keeps the ranges: what it stages is clamped, and what it takes as F0 was staged (R128, R129). -/
theorem Move.inRange {s t : State} (move : Move s t) (h : SynthInRange s) : SynthInRange t := by
  cases move with
  | reply replies =>
    refine h.setLink _ ?_
    rw [replies.1]
    exact h.staged _
  | stage staged => exact h.setLink _ (placeStaged_trim (h.staged _) (stagedValue_spec staged).2)
  | discard => exact h.setLink _ (List.forall_mem_nil _)
  | deliver staging =>
    refine h.setLink _ ?_
    rw [staging]
    exact h.staged _
  | commit | cause | queue | hold | tick =>
    exact h.carry (steady_of_same rfl rfl rfl) rfl fun m v hv => by cases m <;> exact hv
  | release => exact releasePart_inRange ..
  | octet => exact h.works (octetArrival_works ..) (octetArrival_steady ..)
  | signal => exact h.works (expireSignal_works ..) (expireSignal_steady ..)
  | frame => exact startFrame_inRange _ s h
  | windowEnd => exact h.works (endWindow_grades ..).works (endWindow_steady ..)
  | wait => exact h.works (endWait_grades ..).works (endWait_steady ..)
  | timeout => exact h.works (acquireTimeoutStep_grades s).works (acquireTimeoutStep_steady s)
  | slipWindow => exact endSlipWindow_inRange _ s h
  | edge => exact stationEdge_inRange _ s h
  | activity => exact h.works (expireActivity_grades ..).works (expireActivity_steady ..)
  | apply => exact applyCommit_inRange _ s h
  | switch => exact h.works (switchAction_grades ..).works (switchAction_steady ..)
  | restart => exact h.works (restartTrunk_works ..) (restartTrunk_steady ..)
  | recenter => exact h.works (setStore_works ..) (setStore_steady ..)
  | counters =>
    exact h.works ((clearCounters_works s).trans (raise_reports ..).works)
      ((clearCounters_steady s).trans (raise_steady ..))
  | read => exact h.works (afterRead_works ..) (afterRead_steady ..)
  | resetLink => exact restartLink_inRange _ s h
  | resetPart => exact warmReset_inRange _ s h

/-- Settles O58: every move keeps the ranges, and the synthesizer in step with the selection, so every step does. -/
theorem stepsKeepTheSynthesizerSound : Obligations.StepsKeepTheSynthesizerSound := by
  unfold Obligations.StepsKeepTheSynthesizerSound
  exact ⟨fun _ _ h e => (step_moves e).keep (fun _ _ move => move.inRange) h,
    fun _ _ h e => (step_moves e).keep (fun _ _ move => move.follows) h⟩

end Sys2Proof.Machine
end

section
/-! OBLIGATIONS. O2 and O6: a part with no command waiting (R50, R71), and a part held by its reset pin (R54, R63, 9.4). -/

namespace Sys2Proof.Machine

/-! ### O2: the queue is empty -/

theorem step_empty {s : State} (empty : s.pending = []) : step s = .next (idle s) := by
  unfold step
  rw [empty]

/-- Where no step is due a tick passes (R50). -/
theorem idle_quiet {s : State} (running : Running s) (quiet : dueCommands s = []) : idle s = oneTick s := by
  unfold idle
  rw [running, quiet]
  rfl

/-- Where steps are due they join the queue in an order drawn (assumptions 1 and 3). -/
theorem idle_due {s : State} (running : Running s) (due : dueCommands s ≠ []) :
    idle s = { s with pending := s.pending ++ inOrder (Config.freeOrder s.free 2) (dueCommands s), free := s.free + 1 } := by
  unfold idle
  rw [running]
  cases steps : dueCommands s with
  | nil => exact absurd steps due
  | cons i is => rfl

/-- Settles O2: a tick where nothing is due, and the due steps in an order where something is. -/
theorem idleStepQueuesDueStepsOrTicks : Obligations.IdleStepQueuesDueStepsOrTicks := by
  unfold Obligations.IdleStepQueuesDueStepsOrTicks
  refine fun s running empty => ⟨fun quiet => ?_, fun due => ⟨_, inOrder_perm (Config.freeOrder s.free 2) _, ?_⟩⟩
  · rw [step_empty empty, idle_quiet running quiet]
    rfl
  · rw [step_empty empty, idle_due running due, empty, List.nil_append]

/-! ### O6: the reset pin is held -/

section held
variable {s : State} (held : s.pinHeld = true)
include held

theorem takenAlone_held (f : State → State) : takenAlone f s = .next s := by
  unfold takenAlone
  rw [held]
  rfl

theorem exec_held {c : Instr} (noRelease : isRelease c = false) : exec c s = .next s := by
  cases on : runsOn c with
  | true =>
    obtain ⟨f, acts⟩ := exec_taken on
    rw [acts, taken_held f s held]
  | false =>
    cases c with
    | captureCompletion => exact takenAlone_held held _
    | windowEnd => exact takenAlone_held held _
    | pinResetAssert =>
      have stands : { s with pinHeld := true } = s := by rw [← held]
      exact congrArg _ stands
    | pinResetRelease | powerOnResetRelease => exact absurd noRelease nofun
    | _ => exact absurd on nofun

theorem idle_held : idle s = s := if_pos held

/-- Every output is low (R54, R63). -/
theorem outputs_held :
    (∀ p h, highwayLevel s p h = false) ∧ highwayClock s = false ∧ frameMarker s = false
      ∧ multiframeMarker s = false ∧ (∀ q, timingOutput s q = false) ∧ ∀ l, attention s l = false := by
  simp [highwayLevel, highwayClock, frameMarker, multiframeMarker, timingOutput, attention, held]

end held

/-- Settles O6: the assert, and the commands, the empty queue and the outputs of a held part. -/
theorem heldPartTakesNothing : Obligations.HeldPartTakesNothing := by
  unfold Obligations.HeldPartTakesNothing
  refine ⟨fun s => rfl, fun s held => ⟨fun _ noRelease => exec_held held noRelease, fun empty => ?_,
    outputs_held held⟩⟩
  rw [step_empty empty, idle_held held]

end Sys2Proof.Machine
end

section
/-! OBLIGATIONS. O25 and O27: the generator at a frame start, and the lanes, the squelches and the timing outputs of the frame
that begins (R51 to R53, R57, R58, R64, R65, R130). -/

namespace Sys2Proof.Machine

/-! ### What a frame start leaves of a link -/

/-- A link's state, its responses, staging area, mask and capture record are as they were. -/
structure LinkStands (k k' : Link) : Prop where
  state : k'.state = k.state
  sending : k'.sending = k.sending
  waiting : k'.waiting = k.waiting
  staging : k'.staging = k.staging
  mask : k'.mask = k.mask
  capture : k'.capture = k.capture

theorem LinkStands.refl (k : Link) : LinkStands k k := ⟨rfl, rfl, rfl, rfl, rfl, rfl⟩

theorem LinkStands.trans {a b c : Link} (h : LinkStands a b) (g : LinkStands b c) : LinkStands a c :=
  ⟨g.state.trans h.state, g.sending.trans h.sending, g.waiting.trans h.waiting, g.staging.trans h.staging,
    g.mask.trans h.mask, g.capture.trans h.capture⟩

theorem Heard.stands {k k' : Link} (h : Heard k k') : LinkStands k k' := by
  obtain ⟨more, full, rfl⟩ := h
  exact ⟨rfl, rfl, rfl, rfl, rfl, rfl⟩

theorem copied_stands (n : Trunk) (d : Delivered) (now : Tick) (k : Link) : LinkStands k (Claim.copied n d now k) := by
  unfold Claim.copied
  split
  · split
    · exact ⟨rfl, rfl, rfl, rfl, rfl, rfl⟩
    · exact LinkStands.refl k
  all_goals exact LinkStands.refl k

/-! ### What the units of a frame start leave -/

/-- The instant and the count of frames, the framers, the configuration, the commit, the cause, the pin, the station levels
and the links' own work are as they were. -/
structure FrameLeaves (s t : State) : Prop where
  tick : t.gen.tick = s.gen.tick
  frameStart : t.gen.frameStart = s.gen.frameStart
  frameNumber : t.gen.frameNumber = s.gen.frameNumber
  epoch : t.gen.epoch = s.gen.epoch
  framers : t.framers = s.framers
  cfg : t.cfg = s.cfg
  generation : t.generation = s.generation
  commit : t.commit = s.commit
  applied : t.applied = s.applied
  cause : t.cause = s.cause
  pinHeld : t.pinHeld = s.pinHeld
  s1 : t.s1 = s.s1
  s2 : t.s2 = s.s2
  link : ∀ l, LinkStands (s.link l) (t.link l)

theorem FrameLeaves.refl (s : State) : FrameLeaves s s :=
  ⟨rfl, rfl, rfl, rfl, rfl, rfl, rfl, rfl, rfl, rfl, rfl, rfl, rfl, fun _ => LinkStands.refl _⟩

theorem FrameLeaves.trans {s t u : State} (h : FrameLeaves s t) (g : FrameLeaves t u) : FrameLeaves s u where
  tick := g.tick.trans h.tick
  frameStart := g.frameStart.trans h.frameStart
  frameNumber := g.frameNumber.trans h.frameNumber
  epoch := g.epoch.trans h.epoch
  framers := g.framers.trans h.framers
  cfg := g.cfg.trans h.cfg
  generation := g.generation.trans h.generation
  commit := g.commit.trans h.commit
  applied := g.applied.trans h.applied
  cause := g.cause.trans h.cause
  pinHeld := g.pinHeld.trans h.pinHeld
  s1 := g.s1.trans h.s1
  s2 := g.s2.trans h.s2
  link l := (h.link l).trans (g.link l)

theorem Works.frameLeaves {s t : State} (h : Works s t) (framers : t.framers = s.framers) : FrameLeaves s t where
  tick := by rw [h.gen]
  frameStart := by rw [h.gen]
  frameNumber := by rw [h.gen]
  epoch := by rw [h.gen]
  framers := framers
  cfg := h.cfg
  generation := by rw [h.1]
  commit := by rw [h.1]
  applied := by rw [h.1]
  cause := by rw [h.1]
  pinHeld := by rw [h.1]
  s1 := by rw [h.1]
  s2 := by rw [h.1]
  link l := (h.heard l).stands

theorem Grades.frameLeaves {s t : State} (h : Grades s t) : FrameLeaves s t := h.works.frameLeaves h.framers

theorem handedOver_leaves (n : Trunk) (d : Delivered) (s u : State) : FrameLeaves u (handedOver n d s u) :=
  ⟨rfl, rfl, rfl, rfl, rfl, rfl, rfl, rfl, rfl, rfl, rfl, rfl, rfl, fun l => by cases l <;> exact copied_stands ..⟩

theorem readStore_leaves (n : Trunk) (s : State) : FrameLeaves s (readStore n s) := by
  rw [readStore_eq]
  exact ((afterDelivery_works n s).frameLeaves (afterDelivery_framers n s)).trans (handedOver_leaves ..)

theorem frameUnit_leaves (u : FrameUnit) (s : State) : FrameLeaves s (u.take s) := by
  have links : ∀ (g : Generator) (y : Synth) (l : LinkId),
      LinkStands (s.link l) (({ s with gen := g, synth := y } : State).link l) := fun g y l => by
    cases l <;> exact LinkStands.refl _
  cases u with
  | length => exact ⟨rfl, rfl, rfl, rfl, rfl, rfl, rfl, rfl, rfl, rfl, rfl, rfl, rfl, links _ _⟩
  | frameQl => exact ⟨rfl, rfl, rfl, rfl, rfl, rfl, rfl, rfl, rfl, rfl, rfl, rfl, rfl, links _ s.synth⟩
  | classes => exact (classEvaluation_grades s).frameLeaves
  | waits => exact (countWaits_grades s).frameLeaves
  | timeout => exact (takeHandedTimeout_grades s).frameLeaves
  | sample => exact (phaseSample_grades s).frameLeaves
  | read n => exact readStore_leaves n s

theorem withOut_leaves (s : State) (out : Outputs) : FrameLeaves s { s with out := out } :=
  ⟨rfl, rfl, rfl, rfl, rfl, rfl, rfl, rfl, rfl, rfl, rfl, rfl, rfl, fun l => by cases l <;> exact LinkStands.refl _⟩

/-- After the generator's own step the units leave all this as it was. -/
theorem unitsDone_leaves (us : List FrameUnit) (s : State) : FrameLeaves (advanceGenerator s) (unitsDone us s) :=
  foldl_reach FrameLeaves FrameLeaves.refl FrameLeaves.trans _ (fun s u => frameUnit_leaves u s) us _

theorem frameStart_leaves (us : List FrameUnit) (s : State) :
    FrameLeaves (advanceGenerator s) (outputsFixed (unitsDone us s)) := by
  rw [(outputsFixed_shape _).1]
  exact (unitsDone_leaves us s).trans (withOut_leaves _ _)

/-! ### A frame start that begins no multiframe -/

/-- The members of such a start: the length, the frame QL and the reads (R52). -/
theorem frameUnits_single {us : List FrameUnit} (h : us.Perm (frameUnits false)) {u : FrameUnit} (mem : u ∈ us) :
    u = .length ∨ u = .frameQl ∨ ∃ n, u = .read n := by
  have unit := h.mem_iff.mp mem
  simpa [frameUnits, eq_comm] using unit

/-- The candidates, the selector and the synthesizer are as they were. -/
structure JudgesStand (s t : State) : Prop where
  cands : t.cands = s.cands
  sel : t.sel = s.sel
  synth : t.synth = s.synth

/-- A read reaches its store, the queues, the lanes and the captures alone (R26). -/
theorem readStore_judges (n : Trunk) (s : State) : JudgesStand s (readStore n s) := by
  have shape := (afterDelivery_reports n s).1
  have cands := congrArg State.cands shape
  have sel := congrArg State.sel shape
  have synth := congrArg State.synth shape
  rw [readStore_eq]
  exact ⟨cands, sel, synth⟩

/-- The candidates and the selector are as they were. -/
structure SelectorStands (s t : State) : Prop where
  cands : t.cands = s.cands
  sel : t.sel = s.sel

/-- The synthesizer and the frame length are as they were. -/
structure LengthStands (s t : State) : Prop where
  synth : t.synth = s.synth
  length : t.gen.frameLength = s.gen.frameLength

/-- The exchange QL and the frame QL are as they were. -/
structure QlStands (s t : State) : Prop where
  exchange : t.synth.exchangeQl = s.synth.exchangeQl
  frame : t.gen.frameQl = s.gen.frameQl

section single
variable {us : List FrameUnit} (h : us.Perm (frameUnits false)) (s : State)
include h

theorem single_selector : SelectorStands s (outputsFixed (unitsDone us s)) := by
  have units : SelectorStands (advanceGenerator s) (unitsDone us s) := by
    refine foldl_related SelectorStands (fun _ => ⟨rfl, rfl⟩)
      (fun a b => ⟨b.cands.trans a.cands, b.sel.trans a.sel⟩) _ us (fun u mem v => ?_) _
    obtain rfl | rfl | ⟨n, rfl⟩ := frameUnits_single h mem
    · exact ⟨rfl, rfl⟩
    · exact ⟨rfl, rfl⟩
    · exact ⟨(readStore_judges n v).cands, (readStore_judges n v).sel⟩
  rw [(outputsFixed_shape _).1]
  exact ⟨units.cands, units.sel⟩

/-- No other unit of such a start acts on the synthesizer or the frame length (R51, R130). -/
theorem single_length : LengthStands (produceLength s) (outputsFixed (unitsDone us s)) := by
  obtain ⟨v, before, later⟩ := foldl_at LengthStands (fun _ => ⟨rfl, rfl⟩)
    (fun a b => ⟨b.synth.trans a.synth, b.length.trans a.length⟩) (fun s (u : FrameUnit) => u.take s) .length us
    (h.nodup_iff.mpr (frameUnits_nodup false)) (h.mem_iff.mpr (by simp [frameUnits])) (fun u mem other v => by
      obtain rfl | rfl | ⟨n, rfl⟩ := frameUnits_single h mem
      · exact absurd rfl other
      · exact ⟨rfl, rfl⟩
      · exact ⟨(readStore_judges n v).synth, congrArg Generator.frameLength (readStore_gen n v)⟩) (advanceGenerator s)
  have same : LengthStands (produceLength s) (produceLength v) := by
    rw [produceLength_eq, produceLength_eq, before.synth]
    exact ⟨rfl, rfl⟩
  rw [(outputsFixed_shape _).1]
  exact ⟨later.synth.trans same.synth, later.length.trans same.length⟩

/-- The frame QL is the exchange QL as it stood (R53). -/
theorem single_frameQl : (outputsFixed (unitsDone us s)).gen.frameQl = s.synth.exchangeQl := by
  obtain ⟨v, before, later⟩ := foldl_at QlStands (fun _ => ⟨rfl, rfl⟩)
    (fun a b => ⟨b.exchange.trans a.exchange, b.frame.trans a.frame⟩) (fun s (u : FrameUnit) => u.take s) .frameQl us
    (h.nodup_iff.mpr (frameUnits_nodup false)) (h.mem_iff.mpr (by simp [frameUnits])) (fun u mem other v => by
      obtain rfl | rfl | ⟨n, rfl⟩ := frameUnits_single h mem
      · exact ⟨rfl, rfl⟩
      · exact absurd rfl other
      · exact ⟨congrArg Synth.exchangeQl (readStore_judges n v).synth,
          congrArg Generator.frameQl (readStore_gen n v)⟩) (advanceGenerator s)
  rw [(outputsFixed_shape _).1]
  exact later.frame.trans before.exchange

end single

/-! ### O25 -/

theorem exec_frameStart_early {s : State} (takes : Takes s) (early : ¬ Claim.Due s) (ord : Nat) :
    exec (.exchangeFrameStart ord) s = .next s := by
  refine (taken_takes _ s takes).trans (congrArg _ ?_)
  unfold frameStartStep
  exact if_neg fun due => early ((startDue_iff s).mp due)

theorem unitOrder_single {s : State} (single : s.gen.frameNumber ≠ 15) (ord : Nat) :
    (unitOrder ord (beginsMultiframe s)).Perm (frameUnits false) := by
  have begins : beginsMultiframe s = false := decide_eq_false single
  rw [begins]
  exact unitOrder_perm ord false

/-- Settles O25: a frame start that is not due, what every frame start leaves, and one that begins no multiframe. -/
theorem frameStartAdvancesTheGenerator : Obligations.FrameStartAdvancesTheGenerator := by
  unfold Obligations.FrameStartAdvancesTheGenerator
  refine ⟨fun ord s takes => ⟨fun early => exec_frameStart_early takes early ord, fun due => ?_⟩, ?_⟩
  · have leaves := frameStart_leaves (unitOrder ord (beginsMultiframe s)) s
    have running : s.pinHeld = false := takes.1
    rw [advanceGenerator_eq] at leaves
    refine ⟨_, exec_frameStart takes due ord, leaves.tick, leaves.frameStart, leaves.frameNumber, leaves.epoch,
      leaves.framers, leaves.cfg, leaves.generation, leaves.commit, leaves.applied, leaves.cause,
      leaves.pinHeld.trans running, leaves.s1, leaves.s2, fun l => ?_⟩
    have link := leaves.link l
    rw [State.setGen_link] at link
    exact ⟨link.state, link.sending, link.waiting, link.staging, link.mask, link.capture⟩
  · intro ord s takes due single sum q
    have units := unitOrder_single single ord
    obtain ⟨cands, sel⟩ := single_selector units s
    obtain ⟨synth, length⟩ := single_length units s
    rw [produceLength_eq] at synth length
    refine ⟨_, exec_frameStart takes due ord, length, synth, single_frameQl units s, cands, sel,
      fun inRange residue => ?_⟩
    have quotient : q = -1 ∨ q = 0 ∨ q = 1 := quotient_cases inRange residue
    rw [length, synth]
    change (q = -1 ∧ (3072 - q).toNat = 3073 ∨ q = 0 ∧ (3072 - q).toNat = 3072 ∨ q = 1 ∧ (3072 - q).toNat = 3071)
      ∧ (sum - 65536 * q).toNat < 65536
    omega

/-! ### O27: the lanes and the squelches of the new frame -/

/-- The 36 octets of a lane frame, by its map entry and what was handed over (R57, R58). -/
theorem laneFrame_octets (src : LaneSource) (pattern : Traffic) (handed : Vector Handover 48) (number : Fin 16)
    (ql : Ql) : (laneFrame src pattern handed number ql).octets = Claim.laneOctets src pattern handed number ql := by
  cases src with
  | idle => rfl
  | test => rfl
  | trunk t =>
    unfold laneFrame Claim.laneOctets
    dsimp only
    cases (handed[t]).delivered with
    | idle => cases (handed[t]).alarm <;> rfl
    | fresh r =>
      obtain ⟨_, _, rdi, _⟩ := r
      cases rdi <;> cases (handed[t]).alarm <;> rfl
    | repeated r =>
      obtain ⟨_, _, rdi, _⟩ := r
      cases rdi <;> cases (handed[t]).alarm <;> rfl

/-- The outputs fixed for a frame: lanes and squelches from the state that the units have left (R57, R65). -/
theorem outputsFixed_eq (s : State) : outputsFixed s = { s with out := {
    handed := s.out.handed, lanesA := planeLanes s .a, lanesB := planeLanes s .b
    squelched1 := squelch s.gen.frameQl s.cfg.squelch1, squelched2 := squelch s.gen.frameQl s.cfg.squelch2 } } := by
  have first : fixLanes .a s = { s with out := { s.out with lanesA := planeLanes s .a } } := rfl
  have lanesB : planeLanes (fixLanes .a s) .b = planeLanes s .b := by
    rw [first]
    exact planeLanes_congr .b rfl rfl rfl rfl
  have second : fixLanes .b (fixLanes .a s)
      = { fixLanes .a s with out := { (fixLanes .a s).out with lanesB := planeLanes (fixLanes .a s) .b } } := rfl
  unfold outputsFixed decideSquelch
  rw [second, lanesB, first]

theorem planeLanes_octets (s : State) (p : Plane) (i : Lane) :
    ((planeLanes s p)[i]).octets
      = Claim.laneOctets (s.cfg.lanes p)[i] (s.cfg.pattern p) s.out.handed s.gen.frameNumber s.gen.frameQl := by
  unfold planeLanes
  simp only [Fin.getElem_fin, Vector.getElem_ofFn]
  exact laneFrame_octets ..

/-- The lanes fixed for a frame are those of its own number, QL and deliveries. -/
theorem outputsFixed_octets (s : State) (i : Lane) :
    let t := outputsFixed s
    (t.out.lanesA[i]).octets
        = Claim.laneOctets s.cfg.lanesA[i] s.cfg.patternA t.out.handed t.gen.frameNumber t.gen.frameQl
      ∧ (t.out.lanesB[i]).octets
        = Claim.laneOctets s.cfg.lanesB[i] s.cfg.patternB t.out.handed t.gen.frameNumber t.gen.frameQl := by
  rw [outputsFixed_eq]
  exact ⟨planeLanes_octets s .a i, planeLanes_octets s .b i⟩

theorem squelch_iff (ql threshold : Ql) : squelch ql threshold = true ↔ ql = 0 ∨ threshold < ql := decide_eq_true_iff

theorem outputsFixed_squelched (s : State) :
    let t := outputsFixed s
    (t.out.squelched1 = true ↔ t.gen.frameQl = 0 ∨ s.cfg.squelch1 < t.gen.frameQl)
      ∧ (t.out.squelched2 = true ↔ t.gen.frameQl = 0 ∨ s.cfg.squelch2 < t.gen.frameQl) := by
  rw [outputsFixed_eq]
  exact ⟨squelch_iff .., squelch_iff ..⟩

theorem timingOutput_iff {s : State} (running : Running s) (q : Bool) :
    timingOutput s q = true ↔ q = false ∧ (s.gen.tick - s.gen.frameStart).toNat < 256 := by
  unfold timingOutput
  rw [running, Bool.not_false, Bool.true_and, Bool.and_eq_true, Bool.not_eq_true', decide_eq_true_iff]
  rfl

/-- Settles O27: the lanes, the squelches, and the level of a timing output. -/
theorem lanesAndSquelchOfTheNewFrame : Obligations.LanesAndSquelchOfTheNewFrame := by
  unfold Obligations.LanesAndSquelchOfTheNewFrame
  have cfg : ∀ us s, (unitsDone us s).cfg = s.cfg := fun us s => (unitsDone_leaves us s).cfg
  refine ⟨fun ord s takes due => ⟨_, exec_frameStart takes due ord, fun i => ?_⟩,
    fun ord s takes due => ⟨_, exec_frameStart takes due ord, ?_⟩, fun s q running => timingOutput_iff running q⟩
  · rw [← cfg (unitOrder ord (beginsMultiframe s)) s]
    exact outputsFixed_octets _ i
  · rw [← cfg (unitOrder ord (beginsMultiframe s)) s]
    exact outputsFixed_squelched _

end Sys2Proof.Machine
end

section
/-! OBLIGATION. O28: the highways by slot and bit period, the highway clock and the plane markers (R61, R62). -/

namespace Sys2Proof.Machine

/-! ### Slots -/

theorem laneFrame_octets_length (x : LaneFrame) : x.octets.length = 36 := by
  simp [LaneFrame.octets]

theorem slotLane_eq {h : Fin 6} {j : Nat} {i : Lane} (lane : i.val = 8 * h.val + j % 8) : slotLane h j = i := by
  apply Fin.ext
  change (8 * h.val + j % 8) % 48 = i.val
  omega

/-- Slot j of a highway carries octet j / 8 of its lane (R61). -/
theorem highwaySlot_octet (s : State) (p : Plane) {h : Fin 6} {j : Nat} {i : Lane} (slot : j < 288)
    (lane : i.val = 8 * h.val + j % 8) : some (highwaySlot s p h j) = (((s.lanes p)[i]).octets)[j / 8]? := by
  obtain rfl := slotLane_eq lane
  have inside : j / 8 < (((s.lanes p)[slotLane h j]).octets).length := by
    rw [laneFrame_octets_length]
    omega
  unfold highwaySlot
  rw [List.getD_eq_getElem _ _ inside, List.getElem?_eq_getElem inside]

/-! ### Bit periods -/

/-- The bit periods before the last are 1, 1 and 2 ticks long in turn (R61). -/
theorem bitPeriod_iff {k : Nat} (o : Nat) (early : k < 2303) :
    bitPeriod o = k ↔ 4 * (k / 3) + k % 3 ≤ o ∧ o < 4 * (k / 3) + k % 3 + if k % 3 = 2 then 2 else 1 := by
  unfold bitPeriod
  split <;> omega

theorem bitPeriod_last (o : Nat) : bitPeriod o = 2303 ↔ 3070 ≤ o := by
  unfold bitPeriod
  omega

/-- A bit period begins at its first tick (R61). -/
theorem bitPeriodBegins_iff (o : Nat) : bitPeriodBegins o = true ↔ ∃ k < 2304, o = 4 * (k / 3) + k % 3 := by
  have begins : bitPeriodBegins o = true ↔ o = 0 ∨ bitPeriod o ≠ bitPeriod (o - 1) := by
    simp [bitPeriodBegins]
  rw [begins]
  unfold bitPeriod
  constructor
  · exact fun _ => ⟨min 2303 (3 * (o / 4) + min 2 (o % 4)), by omega, by omega⟩
  · rintro ⟨k, last, rfl⟩
    omega

/-! ### The lines of a running part -/

theorem getLsbD_seven_sub (x : Octet) (k : Nat) : x.getLsbD (7 - k % 8) = x.getMsbD (k % 8) := by
  have inside : k % 8 < 8 := Nat.mod_lt _ (by decide)
  simp [BitVec.getMsbD, inside]

section running
variable {s : State} (running : Running s)
include running

theorem highwayLevel_running (p : Plane) (h : Fin 6) :
    highwayLevel s p h
      = (highwaySlot s p h (bitPeriod (frameOffset s) / 8)).getMsbD (bitPeriod (frameOffset s) % 8) := by
  unfold highwayLevel
  rw [running]
  exact getLsbD_seven_sub ..

theorem highwayClock_iff : highwayClock s = true ↔ ∃ k < 2304, frameOffset s = 4 * (k / 3) + k % 3 := by
  unfold highwayClock
  rw [running]
  exact bitPeriodBegins_iff _

theorem frameMarker_iff : frameMarker s = true ↔ bitPeriod (frameOffset s) < 8 := by
  unfold frameMarker
  rw [running]
  exact decide_eq_true_iff

theorem multiframeMarker_iff :
    multiframeMarker s = true ↔ bitPeriod (frameOffset s) < 8 ∧ s.gen.frameNumber = 0 := by
  unfold multiframeMarker
  rw [Bool.and_eq_true, frameMarker_iff running, beq_iff_eq]

end running

/-- Settles O28: the slots, the bit periods, and the lines of a running part. -/
theorem highwaysAndMarkers : Obligations.HighwaysAndMarkers := by
  unfold Obligations.HighwaysAndMarkers
  refine ⟨fun s p _ _ _ slot lane => highwaySlot_octet s p slot lane, fun _ o early => bitPeriod_iff o early,
    bitPeriod_last, fun s running => ?_⟩
  exact ⟨highwayLevel_running running, highwayClock_iff running, frameMarker_iff running, multiframeMarker_iff running⟩

end Sys2Proof.Machine
end

section
/-! OBLIGATION. O48: the codes and indexes of items, the octets of item values, and the configuration as items (R156 to
R158). -/

namespace Sys2Proof.Machine

/-! ### Operands -/

theorem below_iff {n : Nat} {o : Octet} {x : Fin n} : below n o = some x ↔ o.toNat = x.val := by
  refine ⟨fun h => ?_, below_some⟩
  unfold below at h
  split at h
  · exact congrArg Fin.val (Option.some.inj h)
  · exact absurd h nofun

/-- A number counted from 1 (R111, R156). -/
theorem below_pred_iff {n : Nat} {o : Octet} {x : Fin n} :
    (if o = 0 then none else below n (o - 1)) = some x ↔ o.toNat = x.val + 1 := by
  split
  · next zero =>
    subst zero
    exact iff_of_false nofun (by simp)
  · next positive =>
    have pos : o.toNat ≠ 0 := fun h => positive (BitVec.eq_of_toNat_eq h)
    have sub : (o - 1).toNat = o.toNat - 1 := by
      have one : (1 : Octet).toNat = 1 := rfl
      have := o.isLt
      rw [BitVec.toNat_sub, one]
      omega
    rw [below_iff, sub]
    omega

theorem candidateOf_iff {o : Octet} {c : Cand} : candidateOf o = some c ↔ o.toNat = c.val + 1 := below_pred_iff

theorem outputOf_iff {o : Octet} {n : Fin 2} : outputOf o = some n ↔ o.toNat = n.val + 1 := below_pred_iff

/-- The number of a plane (2.2). -/
def planeOctet : Plane → Octet
  | .a => 0
  | .b => 1

theorem planeOf_iff {o : Octet} {p : Plane} : planeOf o = some p ↔ o = planeOctet p := by
  unfold planeOf
  split
  · next zero => subst zero; cases p <;> simp [planeOctet]
  · next nonzero =>
    split
    · next one => subst one; cases p <;> simp [planeOctet]
    · next other =>
      refine iff_of_false nofun ?_
      cases p
      · exact nonzero
      · exact other

/-! ### Item codes and indexes -/

/-- The code and the indexes that name a stageable item (R156). -/
def StageItem.named (code i1 i2 : Octet) : StageItem → Prop
  | .trunk t => code = 1 ∧ i1.toNat = t.val
  | .lane p i => code = 2 ∧ i1 = planeOctet p ∧ i2.toNat = i.val
  | .pattern p => code = 3 ∧ i1 = planeOctet p
  | .candidate c => code = 4 ∧ i1.toNat = c.val + 1
  | .rule r => code = 5 ∧ i1.toNat = r.val
  | .loopGuard k => code = 6 ∧ i1.toNat = k.val
  | .selector => code = 7
  | .monitor => code = 8
  | .synth => code = 9
  | .output n => code = 10 ∧ i1.toNat = n.val + 1

theorem named_of_stageItemOf {code i1 i2 : Octet} {it : StageItem} (h : stageItemOf code i1 i2 = some it) :
    it.named code i1 i2 := by
  unfold stageItemOf at h
  obtain ⟨is, h⟩ | ⟨-, h⟩ := ite_eq_iff.mp h
  · obtain ⟨t, index, rfl⟩ := Option.map_eq_some_iff.mp h; exact ⟨is, below_iff.mp index⟩
  obtain ⟨is, h⟩ | ⟨-, h⟩ := ite_eq_iff.mp h
  · split at h
    · next p i plane index => cases h; exact ⟨is, planeOf_iff.mp plane, below_iff.mp index⟩
    · exact absurd h nofun
  obtain ⟨is, h⟩ | ⟨-, h⟩ := ite_eq_iff.mp h
  · obtain ⟨p, plane, rfl⟩ := Option.map_eq_some_iff.mp h; exact ⟨is, planeOf_iff.mp plane⟩
  obtain ⟨is, h⟩ | ⟨-, h⟩ := ite_eq_iff.mp h
  · obtain ⟨c, index, rfl⟩ := Option.map_eq_some_iff.mp h; exact ⟨is, candidateOf_iff.mp index⟩
  obtain ⟨is, h⟩ | ⟨-, h⟩ := ite_eq_iff.mp h
  · obtain ⟨r, index, rfl⟩ := Option.map_eq_some_iff.mp h; exact ⟨is, below_iff.mp index⟩
  obtain ⟨is, h⟩ | ⟨-, h⟩ := ite_eq_iff.mp h
  · obtain ⟨k, index, rfl⟩ := Option.map_eq_some_iff.mp h; exact ⟨is, below_iff.mp index⟩
  iterate 3
    obtain ⟨is, h⟩ | ⟨-, h⟩ := ite_eq_iff.mp h
    · cases h; exact is
  obtain ⟨is, h⟩ | ⟨-, h⟩ := ite_eq_iff.mp h
  · obtain ⟨n, index, rfl⟩ := Option.map_eq_some_iff.mp h; exact ⟨is, outputOf_iff.mp index⟩
  · exact absurd h nofun

theorem stageItemOf_named {code i1 i2 : Octet} {it : StageItem} (h : it.named code i1 i2) :
    stageItemOf code i1 i2 = some it := by
  cases it with
  | trunk t => obtain ⟨rfl, index⟩ := h; exact congrArg (Option.map _) (below_iff.mpr index)
  | lane p i =>
    obtain ⟨rfl, plane, index⟩ := h
    unfold stageItemOf
    rw [planeOf_iff.mpr plane, below_iff.mpr index]
    rfl
  | pattern p => obtain ⟨rfl, plane⟩ := h; exact congrArg (Option.map _) (planeOf_iff.mpr plane)
  | candidate c => obtain ⟨rfl, index⟩ := h; exact congrArg (Option.map _) (candidateOf_iff.mpr index)
  | rule r => obtain ⟨rfl, index⟩ := h; exact congrArg (Option.map _) (below_iff.mpr index)
  | loopGuard k => obtain ⟨rfl, index⟩ := h; exact congrArg (Option.map _) (below_iff.mpr index)
  | selector => obtain rfl := h; rfl
  | monitor => obtain rfl := h; rfl
  | synth => obtain rfl := h; rfl
  | output n => obtain ⟨rfl, index⟩ := h; exact congrArg (Option.map _) (outputOf_iff.mpr index)

/-- The code and the index that name a status item (R156). -/
def StatusItem.named (code i1 : Octet) : StatusItem → Prop
  | .trunk t => code = 16 ∧ i1.toNat = t.val
  | .store t => code = 17 ∧ i1.toNat = t.val
  | .history t => code = 18 ∧ i1.toNat = t.val
  | .wander t => code = 19 ∧ i1.toNat = t.val
  | .candidate c => code = 20 ∧ i1.toNat = c.val + 1
  | .selector => code = 21
  | .synth => code = 22
  | .timing => code = 23
  | .cause => code = 24
  | .link => code = 25
  | .capture => code = 26

theorem named_of_statusItemOf {code i1 : Octet} {it : StatusItem} (h : statusItemOf code i1 = some it) :
    it.named code i1 := by
  unfold statusItemOf at h
  iterate 4
    obtain ⟨is, h⟩ | ⟨-, h⟩ := ite_eq_iff.mp h
    · obtain ⟨t, index, rfl⟩ := Option.map_eq_some_iff.mp h; exact ⟨is, below_iff.mp index⟩
  obtain ⟨is, h⟩ | ⟨-, h⟩ := ite_eq_iff.mp h
  · obtain ⟨c, index, rfl⟩ := Option.map_eq_some_iff.mp h; exact ⟨is, candidateOf_iff.mp index⟩
  iterate 6
    obtain ⟨is, h⟩ | ⟨-, h⟩ := ite_eq_iff.mp h
    · cases h; exact is
  exact absurd h nofun

theorem statusItemOf_named {code i1 : Octet} {it : StatusItem} (h : it.named code i1) :
    statusItemOf code i1 = some it := by
  cases it with
  | trunk t => obtain ⟨rfl, index⟩ := h; exact congrArg (Option.map _) (below_iff.mpr index)
  | store t => obtain ⟨rfl, index⟩ := h; exact congrArg (Option.map _) (below_iff.mpr index)
  | history t => obtain ⟨rfl, index⟩ := h; exact congrArg (Option.map _) (below_iff.mpr index)
  | wander t => obtain ⟨rfl, index⟩ := h; exact congrArg (Option.map _) (below_iff.mpr index)
  | candidate c => obtain ⟨rfl, index⟩ := h; exact congrArg (Option.map _) (candidateOf_iff.mpr index)
  | selector | synth | timing | cause | link | capture => obtain rfl := h; rfl

/-! ### The length of a value -/

theorem laneSourceOctets_length (x : LaneSource) : (laneSourceOctets x).length = 2 := by cases x <;> rfl

theorem sourceOctets_length (x : Source) : (sourceOctets x).length = 2 := by
  cases x with
  | station i => cases i <;> rfl
  | _ => rfl

theorem ruleActionOctets_length (x : RuleAction) : (ruleActionOctets x).length = 2 := by cases x <;> rfl

/-- A value has the octets that its item's length asks for (R158). -/
theorem octets_length (v : ItemValue) : v.octets.length = v.item.valueLength := by
  cases v with
  | lane p i x => exact laneSourceOctets_length x
  | pattern p x => exact x.length_toList
  | candidate c x =>
    refine (congrArg (· + 1) (List.length_append ..)).trans ?_
    rw [sourceOctets_length]
    rfl
  | rule r x =>
    refine (List.length_append ..).trans ?_
    rw [ruleActionOctets_length]
    rfl
  | loopGuard k x => cases x <;> rfl
  | trunk | selector | monitor | synth | output => rfl

/-! ### Values in their places -/

theorem item_item (k : Settings) (it : StageItem) : (k.item it).item = it := by
  cases it with
  | lane p => cases p <;> rfl
  | pattern p => cases p <;> rfl
  | _ => rfl

/-- A value put in place is read back. -/
theorem put_same (k : Settings) (v : ItemValue) : (k.put v).item v.item = v := by
  cases v with
  | lane p => cases p <;> simp [Settings.put, Settings.item, ItemValue.item]
  | pattern p => cases p <;> rfl
  | output n x =>
    match n with
    | 0 => rfl
    | 1 => rfl
  | trunk | candidate | rule | loopGuard => simp [Settings.put, Settings.item, ItemValue.item]
  | selector | monitor | synth => rfl

/-- A place of a table that a write to another leaves alone. -/
theorem vector_set_other {α : Type} {n : Nat} (xs : Vector α n) {i j : Fin n} (x : α) (other : j ≠ i) :
    (xs.set i x)[j] = xs[j] := Vector.getElem_set_ne _ _ fun same => other (Fin.ext same.symm)

/-- A squelch threshold put in place (R65). -/
theorem put_output (k : Settings) (n : Fin 2) (x : Ql) : k.put (.output n x)
    = { k with squelch1 := if n = 0 then x else k.squelch1, squelch2 := if n = 0 then k.squelch2 else x } := by
  unfold Settings.put
  dsimp only
  split <;> rfl

/-- A value put in place changes no other item. -/
theorem put_other (k : Settings) (v : ItemValue) {it : StageItem} (other : it ≠ v.item) :
    (k.put v).item it = k.item it := by
  cases v with
  | trunk t x =>
    cases it with
    | trunk u => exact congrArg (ItemValue.trunk u) (vector_set_other _ _ fun same => other (congrArg _ same))
    | lane q | pattern q => cases q <;> rfl
    | _ => rfl
  | lane p i x =>
    cases it with
    | lane q j =>
      have apart : p = q → j ≠ i := fun plane index => other (by rw [plane, index]; rfl)
      cases p <;> cases q
      · exact congrArg (ItemValue.lane .a j) (vector_set_other _ _ (apart rfl))
      · rfl
      · rfl
      · exact congrArg (ItemValue.lane .b j) (vector_set_other _ _ (apart rfl))
    | pattern q => cases p <;> cases q <;> rfl
    | _ => cases p <;> rfl
  | pattern p x =>
    cases it with
    | pattern q =>
      have apart : p ≠ q := fun plane => other (by rw [plane]; rfl)
      cases p <;> cases q
      · exact absurd rfl apart
      · rfl
      · rfl
      · exact absurd rfl apart
    | lane q => cases p <;> cases q <;> rfl
    | _ => cases p <;> rfl
  | candidate c x =>
    cases it with
    | candidate d =>
      exact congrArg (ItemValue.candidate d) (vector_set_other _ _ fun same => other (congrArg _ same))
    | lane q | pattern q => cases q <;> rfl
    | _ => rfl
  | rule r x =>
    cases it with
    | rule q =>
      exact congrArg (ItemValue.rule q) (vector_set_other _ _ fun same => other (congrArg _ same))
    | lane q | pattern q => cases q <;> rfl
    | _ => rfl
  | loopGuard g x =>
    cases it with
    | loopGuard j =>
      exact congrArg (ItemValue.loopGuard j) (vector_set_other _ _ fun same => other (congrArg _ same))
    | lane q | pattern q => cases q <;> rfl
    | _ => rfl
  | selector x =>
    cases it with
    | selector => exact absurd rfl other
    | lane q | pattern q => cases q <;> rfl
    | _ => rfl
  | monitor x =>
    cases it with
    | monitor => exact absurd rfl other
    | lane q | pattern q => cases q <;> rfl
    | _ => rfl
  | synth x =>
    cases it with
    | synth => exact absurd rfl other
    | lane q | pattern q => cases q <;> rfl
    | _ => rfl
  | output n x =>
    rw [put_output]
    cases it with
    | output m =>
      have apart : m ≠ n := fun same => other (congrArg _ same)
      unfold Settings.item
      dsimp only
      split
      · next first => rw [if_neg (fun zero => apart (first.trans zero.symm))]
      · next second => rw [if_pos (by omega)]
    | lane q | pattern q => cases q <;> rfl
    | _ => rfl

/-! ### O48 -/

/-- Settles O48: the codes, the octets, and the configuration read and written by items. -/
theorem itemsAndTheirCodes : Obligations.ItemsAndTheirCodes := by
  unfold Obligations.ItemsAndTheirCodes
  refine ⟨fun code i1 i2 it => ?_, fun code i1 it => ?_, fun v => ?_, fun k it => ?_,
    fun k it => ⟨item_item k it, (octets_length _).trans (by rw [item_item])⟩,
    fun k v => ⟨put_same k v, fun it other => put_other k v other⟩, fun it os v staged => (stagedValue_spec staged).1⟩
  · exact ⟨named_of_stageItemOf, stageItemOf_named⟩
  · exact ⟨named_of_statusItemOf, statusItemOf_named⟩
  · cases v with
    | lane p i x => cases x <;> rfl
    | candidate c x =>
      obtain ⟨_, source, _, _⟩ := x
      cases source with
      | station i => cases i <;> rfl
      | _ => rfl
    | rule r x =>
      change [flagOctet x.enabled] ++ [flagOctet x.join] ++ [ruleFieldOctet x.field] ++ [ruleOpOctet x.op]
        ++ be16 x.value ++ be16 x.mask ++ ruleActionOctets x.action = _
      refine congrArg₂ (· ++ ·) (congrArg₂ (· ++ ·) (congrArg₂ (· ++ ·) (congrArg₂ (· ++ ·) (congrArg₂ (· ++ ·)
        rfl ?field) ?op) (be16_toNat _)) (be16_toNat _)) ?action
      case field => cases x.field <;> rfl
      case op => cases x.op <;> rfl
      case action => cases x.action <;> rfl
    | loopGuard g x =>
      cases x with
      | none => rfl
      | some id => exact congrArg (1 :: ·) (be16_toNat id)
    | selector x => exact congrArg₂ (· ++ ·) (congrArg₂ (· ++ ·) rfl (nat16_eq_two _)) rfl
    | synth x =>
      change Claim.one x.band.val ++ int16 x.f0 ++ Claim.one x.holdoverQl.val ++ Claim.one x.freerunQl.val = _
      rw [int16_eq_signed]
    | trunk | pattern | monitor | output => rfl
  · cases it with
    | lane p => cases p <;> rfl
    | pattern p => cases p <;> rfl
    | output n =>
      match n with
      | 0 => rfl
      | 1 => rfl
    | _ => rfl

end Sys2Proof.Machine
end

section
/-! OBLIGATION. O49: which staged values are refused, and what the others are clamped to (R55, R56, R65, R68, R79, R89, R91,
R103, R128, R158). -/

namespace Sys2Proof.Machine

/-! ### Clamps -/

theorem clampNat_one {hi : Nat} (n : Nat) (h : 1 ≤ hi) :
    clampNat 1 hi n = if n = 0 then 1 else if hi < n then hi else n := by
  unfold clampNat
  split
  · omega
  · split <;> omega

/-- The frequency limit is at least 1 (R79). -/
theorem max_one_toNat (a : Octet) : max 1 a.toNat = if a = 0 then 1 else a.toNat := by
  split
  · next zero => rw [zero]; rfl
  · next positive =>
    have pos : a.toNat ≠ 0 := fun h => positive (BitVec.eq_of_toNat_eq h)
    omega

theorem word16_toNat (hi lo : Octet) : (word16 hi lo).toNat = 256 * hi.toNat + lo.toNat := by
  unfold word16
  rw [BitVec.toNat_append, ← Nat.shiftLeft_add_eq_or_of_lt lo.isLt, Nat.shiftLeft_eq]
  omega

theorem min_wtr (w1 w0 : Octet) : min 1023 (word16 w1 w0).toNat
    = if 1023 < 256 * w1.toNat + w0.toNat then 1023 else 256 * w1.toNat + w0.toNat := by
  rw [word16_toNat]
  split <;> omega

/-- F0 is held within ±10,000 (R128). -/
theorem clamp_trim (x : Int) : max (-10000) (min 10000 x) = Claim.clamp 10000 x := by
  unfold Claim.clamp
  split
  · omega
  · split <;> omega

/-! ### Lanes and candidates (R55, R68) -/

theorem toNat_ne {a : Octet} {k : Nat} (above : k < a.toNat) {n : Octet} (small : n.toNat ≤ k) : a ≠ n := by
  rintro rfl
  omega

theorem laneSourceOf_above {a : Octet} (b : Octet) (h : 2 < a.toNat) : laneSourceOf a b = none := by
  unfold laneSourceOf
  rw [if_neg (toNat_ne h (by decide)), if_neg (toNat_ne h (by decide)), if_neg (toNat_ne h (by decide))]

theorem laneSourceOf_noTrunk {b : Octet} (h : 48 ≤ b.toNat) : laneSourceOf 0 b = none :=
  congrArg (Option.map LaneSource.trunk) (below_none h)

theorem laneSourceOf_trunk {b : Octet} {n : Trunk} (h : b.toNat = n.val) : laneSourceOf 0 b = some (.trunk n) :=
  congrArg (Option.map LaneSource.trunk) (below_some h)

theorem sourceOf_none {k t : Octet} (h : 3 < k.toNat ∨ (k = 1 ∧ 47 < t.toNat)) : sourceOf k t = none := by
  obtain above | ⟨rfl, noTrunk⟩ := h
  · unfold sourceOf
    rw [if_neg (toNat_ne above (by decide)), if_neg (toNat_ne above (by decide)), if_neg (toNat_ne above (by decide)),
      if_neg (toNat_ne above (by decide))]
  · exact congrArg (Option.map Source.trunk) (below_none noTrunk)

theorem sourceOf_some {k t : Octet} {src : Source}
    (h : k = 0 ∧ src = .none ∨ (∃ n : Trunk, k = 1 ∧ t.toNat = n.val ∧ src = .trunk n)
      ∨ k = 2 ∧ src = .station .s1 ∨ k = 3 ∧ src = .station .s2) : sourceOf k t = some src := by
  obtain ⟨rfl, rfl⟩ | ⟨n, rfl, trunk, rfl⟩ | ⟨rfl, rfl⟩ | ⟨rfl, rfl⟩ := h
  · rfl
  · exact congrArg (Option.map Source.trunk) (below_some trunk)
  · rfl
  · rfl

theorem candConfigOf_none (e : Octet) {k t : Octet} (p : Octet) {q : Octet}
    (h : sourceOf k t = none ∨ below 16 q = none) : candConfigOf e k t p q = none := by
  unfold candConfigOf
  split
  · next source ql =>
    obtain none | none := h
    · exact absurd (none.symm.trans source) nofun
    · exact absurd (none.symm.trans ql) nofun
  · rfl

theorem candConfigOf_some (e : Octet) {k t : Octet} (p : Octet) {q : Octet} {src : Source} {ql : Ql}
    (source : sourceOf k t = some src) (level : below 16 q = some ql) :
    candConfigOf e k t p q = some { enabled := e != 0, source := src, assumedQl := ql
                                    priority := if p.toNat = 0 then 1 else if 8 < p.toNat then 8 else p.toNat } := by
  unfold candConfigOf
  rw [source, level, clampNat_one _ (by decide)]

/-! ### The selector and the synthesizer (R103, R128) -/

theorem selectorConfigOf_none (a b w1 w0 : Octet) {k : Octet} (h : 7 < k.toNat) : selectorConfigOf a b w1 w0 k = none := by
  unfold selectorConfigOf
  rw [below_none h]
  rfl

theorem selectorConfigOf_some (a b w1 w0 : Octet) {k : Octet} {cls : Fin 8} (h : k.toNat = cls.val) :
    selectorConfigOf a b w1 w0 k
      = some { quality := a != 0, revertive := b != 0, defaultClass := cls
               wtr := if 1023 < 256 * w1.toNat + w0.toNat then 1023 else 256 * w1.toNat + w0.toNat } := by
  unfold selectorConfigOf
  rw [below_some h, min_wtr]
  rfl

theorem synthConfigOf_none {b : Octet} (f1 f0 : Octet) {h r : Octet}
    (refused : below 4 b = none ∨ below 16 h = none ∨ below 16 r = none) : synthConfigOf b f1 f0 h r = none := by
  unfold synthConfigOf
  split
  · next band holdover freerun =>
    obtain none | none | none := refused
    · exact absurd (none.symm.trans band) nofun
    · exact absurd (none.symm.trans holdover) nofun
    · exact absurd (none.symm.trans freerun) nofun
  · rfl

theorem synthConfigOf_some {b : Octet} (f1 f0 : Octet) {h r : Octet} {band : Fin 4} {holdover freerun : Ql}
    (hb : b.toNat = band.val) (hh : h.toNat = holdover.val) (hr : r.toNat = freerun.val) :
    synthConfigOf b f1 f0 h r
      = some { band := band, f0 := Claim.clamp 10000 ((f1 ++ f0 : BitVec 16).toInt)
               holdoverQl := holdover, freerunQl := freerun } := by
  unfold synthConfigOf
  rw [below_some hb, below_some hh, below_some hr, clamp_trim]
  rfl

/-! ### Patterns (R56) -/

theorem trafficOf_toList {os : List Octet} (h : os.length = 32) : (trafficOf os).toList = os := by
  refine List.ext_getElem (by rw [Vector.length_toList, h]) fun i low high => ?_
  simp [trafficOf, List.getElem?_eq_getElem high]

/-! ### Rules (R91) -/

theorem ruleFieldOf_above {f : Octet} (h : 8 < f.toNat) : ruleFieldOf f = none := List.getElem?_eq_none h

theorem ruleOpOf_above {p : Octet} (h : 3 < p.toNat) : ruleOpOf p = none := List.getElem?_eq_none h

theorem ruleFieldOf_code {f : Octet} {field : RuleField}
    (h : (f, field) ∈ [(0#8, RuleField.ql), (1, .rdi), (2, .sourceId), (3, .freqDev), (4, .phaseHits), (5, .slipRate),
      (6, .slipExcess), (7, .index), (8, .station)]) : ruleFieldOf f = some field := by
  simp only [List.mem_cons, Prod.mk.injEq, List.not_mem_nil, or_false] at h
  obtain ⟨rfl, rfl⟩ | ⟨rfl, rfl⟩ | ⟨rfl, rfl⟩ | ⟨rfl, rfl⟩ | ⟨rfl, rfl⟩ | ⟨rfl, rfl⟩ | ⟨rfl, rfl⟩ | ⟨rfl, rfl⟩
    | ⟨rfl, rfl⟩ := h
  all_goals rfl

theorem ruleOpOf_code {p : Octet} {op : RuleOp}
    (h : (p, op) ∈ [(0#8, RuleOp.eq), (1, .ne), (2, .gt), (3, .lt)]) : ruleOpOf p = some op := by
  simp only [List.mem_cons, Prod.mk.injEq, List.not_mem_nil, or_false] at h
  obtain ⟨rfl, rfl⟩ | ⟨rfl, rfl⟩ | ⟨rfl, rfl⟩ | ⟨rfl, rfl⟩ := h
  all_goals rfl

theorem ruleActionOf_none {a k : Octet} (h : 1 < a.toNat ∨ a = 0 ∧ 7 < k.toNat) : ruleActionOf a k = none := by
  obtain above | ⟨rfl, noClass⟩ := h
  · unfold ruleActionOf
    rw [if_neg (toNat_ne above (by decide)), if_neg (toNat_ne above (by decide))]
  · exact congrArg (Option.map RuleAction.cls) (below_none noClass)

/-- The class octet counts for CLASS alone (R91). -/
theorem ruleActionOf_some {a k : Octet} {action : RuleAction}
    (h : (a = 0 ∧ (∃ c : Fin 8, k.toNat = c.val ∧ action = .cls c)) ∨ (a = 1 ∧ action = .map)) :
    ruleActionOf a k = some action := by
  obtain ⟨rfl, c, cls, rfl⟩ | ⟨rfl, rfl⟩ := h
  · exact congrArg (Option.map RuleAction.cls) (below_some cls)
  · rfl

theorem ruleOf_none (e j : Octet) {f p : Octet} (v1 v0 m1 m0 : Octet) {a k : Octet}
    (h : ruleFieldOf f = none ∨ ruleOpOf p = none ∨ ruleActionOf a k = none) :
    ruleOf e j f p v1 v0 m1 m0 a k = none := by
  unfold ruleOf
  split
  · next field op action =>
    obtain none | none | none := h
    · exact absurd (none.symm.trans field) nofun
    · exact absurd (none.symm.trans op) nofun
    · exact absurd (none.symm.trans action) nofun
  · rfl

theorem ruleOf_some (e j : Octet) {f p : Octet} (v1 v0 m1 m0 : Octet) {a k : Octet} {field : RuleField} {op : RuleOp}
    {action : RuleAction} (hf : ruleFieldOf f = some field) (hp : ruleOpOf p = some op)
    (ha : ruleActionOf a k = some action) :
    ruleOf e j f p v1 v0 m1 m0 a k = some { enabled := e != 0, join := j != 0, field := field, op := op
                                            value := v1 ++ v0, mask := m1 ++ m0, action := action } := by
  unfold ruleOf
  rw [hf, hp, ha]
  rfl

/-! ### O49 -/

/-- Settles O49: item by item, the refusals and the value staged. -/
theorem stagedValuesAreClamped : Obligations.StagedValuesAreClamped := by
  unfold Obligations.StagedValuesAreClamped
  refine ⟨fun t a b => ?_, fun p i a b => ⟨?_, ?_, ?_, ?_, ?_⟩, fun c e k t p q => ⟨?_, ?_⟩,
    fun a b w1 w0 k => ⟨?_, ?_⟩, fun a => ?_, fun b f1 f0 h r => ⟨?_, ?_⟩, fun n a => ⟨?_, ?_⟩, ?_, fun _ _ _ _ => rfl,
    fun r e j f p v1 v0 m1 m0 a k => ⟨?_, ?_⟩⟩
  · rw [← clampNat_one _ (by decide)]
    rfl
  · rintro rfl
    rfl
  · rintro rfl
    rfl
  · exact fun above => congrArg (Option.map (ItemValue.lane p i)) (laneSourceOf_above b above)
  · rintro rfl noTrunk
    exact congrArg (Option.map (ItemValue.lane p i)) (laneSourceOf_noTrunk noTrunk)
  · rintro n rfl trunk
    exact congrArg (Option.map (ItemValue.lane p i)) (laneSourceOf_trunk trunk)
  · intro refused
    have no : sourceOf k t = none ∨ below 16 q = none := by
      obtain kind | trunk | level := refused
      · exact .inl (sourceOf_none (.inl kind))
      · exact .inl (sourceOf_none (.inr trunk))
      · exact .inr (below_none level)
    exact congrArg (Option.map (ItemValue.candidate c)) (candConfigOf_none e p no)
  · exact fun src ql level source =>
      congrArg (Option.map (ItemValue.candidate c)) (candConfigOf_some e p (sourceOf_some source) (below_some level))
  · exact fun above => congrArg (Option.map ItemValue.selector) (selectorConfigOf_none a b w1 w0 above)
  · exact fun cls inside => congrArg (Option.map ItemValue.selector) (selectorConfigOf_some a b w1 w0 inside)
  · rw [← max_one_toNat]
    rfl
  · intro refused
    have no : below 4 b = none ∨ below 16 h = none ∨ below 16 r = none := by
      obtain band | holdover | freerun := refused
      · exact .inl (below_none band)
      · exact .inr (.inl (below_none holdover))
      · exact .inr (.inr (below_none freerun))
    exact congrArg (Option.map ItemValue.synth) (synthConfigOf_none f1 f0 no)
  · exact fun band ho fr hb hh hr => congrArg (Option.map ItemValue.synth) (synthConfigOf_some f1 f0 hb hh hr)
  · exact fun above => congrArg (Option.map (ItemValue.output n)) (below_none above)
  · exact fun q inside => congrArg (Option.map (ItemValue.output n)) (below_some inside)
  · exact fun p os length => ⟨trafficOf os, rfl, trafficOf_toList length⟩
  · intro refused
    have no : ruleFieldOf f = none ∨ ruleOpOf p = none ∨ ruleActionOf a k = none := by
      obtain field | op | action := refused
      · exact .inl (ruleFieldOf_above field)
      · exact .inr (.inl (ruleOpOf_above op))
      · exact .inr (.inr (ruleActionOf_none action))
    exact congrArg (Option.map (ItemValue.rule r)) (ruleOf_none e j v1 v0 m1 m0 no)
  · exact fun field op action hf hp ha => congrArg (Option.map (ItemValue.rule r))
      (ruleOf_some e j v1 v0 m1 m0 (ruleFieldOf_code hf) (ruleOpOf_code hp) (ruleActionOf_some ha))

end Sys2Proof.Machine
end

section
/-! SUPPORT. What the selector keeps: the gates of the candidates, the requests that may fall away, and what an evaluation
makes of both (R72, R88, R99, R104 to R108, R116). -/

namespace Sys2Proof.Machine

/-! ### Eligibility and the automatic choice (R104, R105) -/

theorem eligible_iff (s : State) (c : Cand) : eligible s c = true ↔
    (s.cfg.cands[c]).enabled = true ∧ (s.cands[c]).cls ≠ 0 ∧ s.sel.lockout[c] = false ∧ (s.cands[c]).wait = none := by
  simp [eligible, and_assoc]

theorem firstEligible_eligible {s : State} {c : Cand} (h : firstEligible s = some c) : eligible s c = true := by
  suffices kept : ∀ d, firstEligible s = some d → eligible s d = true from kept c h
  refine foldl_keeps (fun best : Option Cand => ∀ d, best = some d → eligible s d = true) _ (List.finRange 8) none nofun ?_
  intro best d kept e
  split
  · next able =>
    split
    · rintro ⟨⟩
      exact able
    · split
      · rintro ⟨⟩
        exact able
      · exact kept e
  · exact kept e

theorem automaticChoice_eligible {s : State} {c : Cand} (h : automaticChoice s = some c) : eligible s c = true := by
  unfold automaticChoice at h
  split at h
  · exact firstEligible_eligible h
  · split at h
    · split at h
      · next able =>
        cases h
        exact able
      · exact firstEligible_eligible h
    · exact firstEligible_eligible h

/-! ### The gate of one candidate (R72, R88, R99) -/

/-- A record is ABSENT exactly while its candidate is disabled, and active while it has a class other than 0. -/
def Runtime.gated (r : Runtime) (on : Bool) : Prop :=
  (r.state = .absent ↔ on = false) ∧ (r.cls ≠ 0 → r.state.isActive = true)

theorem candidatesGated_iff (s : State) :
    CandidatesGated s ↔ ∀ c : Cand, (s.cands[c]).gated (s.cfg.cands[c]).enabled := Iff.rfl

/-- A gate looks at the state and the class alone. -/
theorem Runtime.gated.congr {r r' : Runtime} {on : Bool} (h : r.gated on) (state : r'.state = r.state)
    (cls : r'.cls = r.cls) : r'.gated on := by
  unfold Runtime.gated
  rw [state, cls]
  exact h

/-- A class may be given to an active monitor, and class 0 to every one. -/
theorem Runtime.gated.newClass {r r' : Runtime} {on : Bool} (h : r.gated on) (state : r'.state = r.state)
    (active : r'.cls ≠ 0 → r.state.isActive = true) : r'.gated on := by
  unfold Runtime.gated
  rw [state]
  exact ⟨h.1, active⟩

/-- An activity loss leaves an INACTIVE monitor of class 0 (R78, R99). -/
theorem Runtime.gated.lost {r : Runtime} {on : Bool} (h : r.gated on) (active : r.state.isActive = true) (owed : Bool) :
    (Claim.lost owed r).gated on := by
  have present : r.state ≠ .absent := fun absent => by
    rw [absent] at active
    exact absurd active nofun
  exact ⟨iff_of_false nofun fun off => present (h.1.mpr off), fun cls => absurd rfl cls⟩

/-- A candidate that starts again is gated by its new enable (R80, R86). -/
theorem renewed_gated (on : Bool) (owed : Option (Fin 8)) : { Claim.renewed on with lostCls := owed }.gated on := by
  cases on with
  | false => exact ⟨iff_of_true rfl rfl, fun cls => absurd rfl cls⟩
  | true => exact ⟨iff_of_false nofun nofun, fun cls => absurd rfl cls⟩

/-! ### Requests that fall away (R106, R125) -/

/-- No standing request names a locked-out candidate (R116). -/
def RequestsClear (s : State) : Prop :=
  (∀ f, s.sel.forced = some f → ∀ c, f.target = some c → s.sel.lockout[c] = false)
    ∧ ∀ m, s.sel.manual = some m → s.sel.lockout[m.target] = false

theorem RequestsStand.clear {s : State} (h : RequestsStand s) : RequestsClear s :=
  ⟨fun f forced c target => (h.1 f forced c target).1, h.2⟩

/-- The lockouts stand; FORCED and MANUAL each stand or are dropped. -/
structure RequestsFall (s t : State) : Prop where
  lockout : t.sel.lockout = s.sel.lockout
  forced : ∀ f, t.sel.forced = some f → s.sel.forced = some f
  manual : ∀ m, t.sel.manual = some m → s.sel.manual = some m

theorem requestsFall_of_same {s t : State} (h : t.sel = s.sel) : RequestsFall s t := by
  constructor <;> simp [h]

theorem RequestsFall.refl (s : State) : RequestsFall s s := requestsFall_of_same rfl

theorem RequestsFall.trans {s t u : State} (h : RequestsFall s t) (g : RequestsFall t u) : RequestsFall s u :=
  ⟨g.lockout.trans h.lockout, fun f forced => h.forced f (g.forced f forced),
    fun m manual => h.manual m (g.manual m manual)⟩

theorem RequestsFall.clear {s t : State} (h : RequestsFall s t) (clear : RequestsClear s) : RequestsClear t := by
  unfold RequestsClear
  rw [h.lockout]
  exact ⟨fun f forced => clear.1 f (h.forced f forced), fun m manual => clear.2 m (h.manual m manual)⟩

theorem RequestsFall.stand {s t : State} (h : RequestsFall s t) (cfg : t.cfg.cands = s.cfg.cands)
    (stand : RequestsStand s) : RequestsStand t := by
  unfold RequestsStand
  rw [h.lockout, cfg]
  exact ⟨fun f forced => stand.1 f (h.forced f forced), fun m manual => stand.2 m (h.manual m manual)⟩

section drop
variable (p : Cand → Bool) (cause : DropCause) (s : State)

/-- A FORCED request that stands after a drop stood before it, on no candidate of the test. -/
theorem dropForcedIf_forced {f : Forced} (h : (dropForcedIf p cause s).sel.forced = some f) :
    s.sel.forced = some f ∧ ∀ c, f.target = some c → p c = false := by
  by_cases missed : ∀ f c, s.sel.forced = some f → f.target = some c → p c = false
  · rw [dropForcedIf_missed missed] at h
    exact ⟨h, fun c => missed f c h⟩
  · push Not at missed
    obtain ⟨g, c, forced, target, hit⟩ := missed
    rw [dropForcedIf_hit forced target (Bool.eq_true_of_not_eq_false hit)] at h
    exact absurd h nofun

theorem dropForcedIf_manual : (dropForcedIf p cause s).sel.manual = s.sel.manual := by
  unfold dropForcedIf
  split <;> rfl

/-- A MANUAL request that stands after a drop stood before it, on no candidate of the test. -/
theorem dropManualIf_manual {m : Manual} (h : (dropManualIf p cause s).sel.manual = some m) :
    s.sel.manual = some m ∧ p m.target = false := by
  by_cases missed : ∀ m, s.sel.manual = some m → p m.target = false
  · rw [dropManualIf_missed missed] at h
    exact ⟨h, missed m h⟩
  · push Not at missed
    obtain ⟨n, manual, hit⟩ := missed
    rw [dropManualIf_hit manual (Bool.eq_true_of_not_eq_false hit)] at h
    exact absurd h nofun

theorem dropManualIf_forced : (dropManualIf p cause s).sel.forced = s.sel.forced := by
  unfold dropManualIf
  split <;> rfl

theorem dropForcedIf_fall : RequestsFall s (dropForcedIf p cause s) :=
  ⟨dropForcedIf_lockout .., fun _ h => (dropForcedIf_forced p cause s h).1,
    fun _ h => (dropForcedIf_manual p cause s) ▸ h⟩

theorem dropManualIf_fall : RequestsFall s (dropManualIf p cause s) :=
  ⟨dropManualIf_lockout .., fun _ h => (dropManualIf_forced p cause s) ▸ h,
    fun _ h => (dropManualIf_manual p cause s h).1⟩

end drop

/-! ### An evaluation (R106, R108) -/

theorem select_sel (reason : Nat) (subject : Subject) (new : Option Cand) (s : State) :
    (select reason subject new s).sel = { s.sel with selection := new } := by
  unfold select
  dsimp only
  split
  · next same => rw [same]
  · rw [followSelection_sel]
    rfl

/-- The state in which an evaluation chooses: a MANUAL request on a candidate not eligible has been dropped (R106). -/
def choosing (s : State) : State := dropManualIf (fun c => !eligible s c) .notEligible s

theorem evaluate_sel (why : EvalCause) (ret : Option Cand) (s : State) :
    (evaluate why ret s).sel = { (choosing s).sel with selection := chooseSelection ret (choosing s) } := select_sel ..

theorem evaluate_fall (why : EvalCause) (ret : Option Cand) (s : State) : RequestsFall s (evaluate why ret s) := by
  have chosen : RequestsFall (choosing s) (evaluate why ret s) := by
    constructor <;> simp [evaluate_sel]
  exact (dropManualIf_fall ..).trans chosen

/-- Candidate c may be the selected one (R108). -/
def Selectable (s : State) (c : Cand) : Prop :=
  (s.cfg.cands[c]).enabled = true ∧ s.sel.lockout[c] = false ∧ (s.cands[c]).state.isActive = true
    ∧ (forcedNames s c ∨ (s.cands[c]).cls ≠ 0 ∧ (s.cands[c]).wait = none)

theorem selectionFit_iff (s : State) : SelectionFit s ↔ ∀ c : Cand, s.sel.selection = some c → Selectable s c := Iff.rfl

theorem selectable_of_eligible {s : State} (gated : CandidatesGated s) {c : Cand} (h : eligible s c = true) :
    Selectable s c := by
  obtain ⟨enabled, cls, lockout, wait⟩ := (eligible_iff s c).mp h
  exact ⟨enabled, lockout, (gated c).2 cls, .inr ⟨cls, wait⟩⟩

theorem forcedChoice_selectable {s : State} (stand : RequestsStand s) {f : Forced} (forced : s.sel.forced = some f)
    {c : Cand} (h : forcedChoice s f = some c) : Selectable s c := by
  unfold forcedChoice at h
  split at h
  · next d target =>
    split at h
    · next active =>
      cases h
      obtain ⟨lockout, enabled⟩ := stand.1 f forced c target
      exact ⟨enabled, lockout, active, .inl ⟨f, forced, target⟩⟩
    · exact absurd h nofun
  · exact absurd h nofun

/-- Each level chooses a candidate that may be followed (R106). -/
theorem chooseSelection_selectable {s : State} (stand : RequestsStand s) (gated : CandidatesGated s)
    (manual : ∀ m, s.sel.manual = some m → eligible s m.target = true) {ret : Option Cand} {c : Cand}
    (h : chooseSelection ret s = some c) : Selectable s c := by
  unfold chooseSelection at h
  split at h
  · next f forced => exact forcedChoice_selectable stand forced h
  · refine selectable_of_eligible gated ?_
    split at h
    · next m standing =>
      cases h
      exact manual m standing
    · split at h
      · split at h
        · next able =>
          cases h
          exact able
        · exact automaticChoice_eligible h
      · exact automaticChoice_eligible h

/-- An evaluation leaves a sound selector, whatever was selected before it (R106, R108). -/
theorem evaluate_sound {s : State} (stand : RequestsStand s) (gated : CandidatesGated s) (why : EvalCause)
    (ret : Option Cand) : SelectorSound (evaluate why ret s) := by
  have steers := evaluate_steers why ret s
  have dropped : Steers s (choosing s) := dropManualIf_steers ..
  have falls : RequestsFall s (choosing s) := dropManualIf_fall ..
  have cfg : (evaluate why ret s).cfg = s.cfg := steers.works.cfg
  refine ⟨(evaluate_fall why ret s).stand (by rw [cfg]) stand, ?_, (selectionFit_iff _).mpr fun c selected => ?_⟩
  · unfold CandidatesGated
    rw [cfg, steers.cands]
    exact gated
  · have sel := evaluate_sel why ret s
    have chosen : chooseSelection ret (choosing s) = some c := by
      rw [sel] at selected
      exact selected
    have gated' : CandidatesGated (choosing s) := by
      unfold CandidatesGated
      rw [dropped.works.cfg, dropped.cands]
      exact gated
    have manual : ∀ m, (choosing s).sel.manual = some m → eligible (choosing s) m.target = true := fun m standing => by
      have able := (eligible_iff ..).mp (Bool.eq_true_of_not_eq_false fun off =>
        absurd (dropManualIf_manual _ _ s standing).2 (by rw [off]; nofun) : eligible s m.target = true)
      refine (eligible_iff ..).mpr ?_
      rw [dropped.works.cfg, dropped.cands, falls.lockout]
      exact able
    have fit := chooseSelection_selectable (falls.stand (by rw [dropped.works.cfg]) stand) gated' manual chosen
    unfold Selectable forcedNames at fit ⊢
    rw [dropped.works.cfg, dropped.cands] at fit
    rw [cfg, steers.cands, sel]
    exact fit

end Sys2Proof.Machine
end

section
/-! SUPPORT. The candidates and the selector through the operations of the monitors, the qualification unit, the synthesizer and
the selector (R72 to R78, R88, R99, R106 to R108, R121, R123). -/

namespace Sys2Proof.Machine

/-! ### Operations after which an evaluation is sound -/

/-- Requests only fall away, and each candidate keeps its gate: what is asked of an operation that an evaluation follows. -/
structure Prepares (s t : State) : Prop where
  cfg : t.cfg.cands = s.cfg.cands
  requests : RequestsFall s t
  gates : ∀ (c : Cand) (on : Bool), (s.cands[c]).gated on → (t.cands[c]).gated on

theorem prepares_of_same {s t : State} (cfg : t.cfg.cands = s.cfg.cands) (sel : t.sel = s.sel) (cands : t.cands = s.cands) :
    Prepares s t := ⟨cfg, requestsFall_of_same sel, fun c on h => by rw [cands]; exact h⟩

theorem Prepares.refl (s : State) : Prepares s s := prepares_of_same rfl rfl rfl

theorem Prepares.trans {s t u : State} (h : Prepares s t) (g : Prepares t u) : Prepares s u :=
  ⟨g.cfg.trans h.cfg, h.requests.trans g.requests, fun c on gated => g.gates c on (h.gates c on gated)⟩

theorem Prepares.gated {s t : State} (h : Prepares s t) (gated : CandidatesGated s) : CandidatesGated t := by
  refine (candidatesGated_iff t).mpr fun c => ?_
  rw [h.cfg]
  exact h.gates c _ (gated c)

/-- An evaluation after it is sound. -/
theorem Prepares.evaluate {s t : State} (h : Prepares s t) (sound : SelectorSound s) (why : EvalCause)
    (ret : Option Cand) : SelectorSound (evaluate why ret t) := by
  obtain ⟨stand, gated, -⟩ := sound
  exact evaluate_sound (h.requests.stand h.cfg stand) (h.gated gated) why ret

theorem raise_prepares (kind : EventKind) (subject : Subject) (detail : Word16) (s : State) :
    Prepares s (raise kind subject detail s) := prepares_of_same rfl rfl rfl

theorem Prepares.raise {s t : State} (h : Prepares s t) (kind : EventKind) (subject : Subject) (detail : Word16) :
    Prepares s (raise kind subject detail t) := h.trans (raise_prepares ..)

theorem setCand_prepares {s : State} {c : Cand} {r : Runtime} (gate : ∀ on, (s.cands[c]).gated on → r.gated on) :
    Prepares s (s.setCand c r) := by
  refine ⟨rfl, requestsFall_of_same rfl, fun d on gated => ?_⟩
  by_cases same : d = c
  · subst same
    rw [setCand_same]
    exact gate on gated
  · rw [setCand_other _ _ _ _ same]
    exact gated

theorem evaluate_prepares (why : EvalCause) (ret : Option Cand) (s : State) : Prepares s (evaluate why ret s) := by
  have steers := evaluate_steers why ret s
  exact ⟨by rw [steers.works.cfg], evaluate_fall why ret s, fun c on gated => by rw [steers.cands]; exact gated⟩

theorem forCands_prepares (f : Cand → State → State) (step : ∀ c s, Prepares s (f c s)) (s : State) :
    Prepares s (forCands f s) := foldl_reach Prepares Prepares.refl Prepares.trans _ (fun s c => step c s) _ s

/-! ### Grading (R87 to R101) -/

theorem setLoop_prepares (c : Cand) (v : Bool) (s : State) : Prepares s (setLoop c v s) :=
  setCand_prepares fun _ gated => gated.congr rfl rfl

theorem classChanged_fields (r : Runtime) (old new : Fin 8) (w : Wait) :
    (r.classChanged old new w).state = r.state ∧ (r.classChanged old new w).cls = r.cls := by
  unfold Runtime.classChanged
  split
  · split
    · exact ⟨rfl, rfl⟩
    · split <;> exact ⟨rfl, rfl⟩
  · split <;> exact ⟨rfl, rfl⟩

/-- A class other than 0 is given to an active monitor only (R88). -/
theorem setClass_prepares {c : Cand} {new : Fin 8} {s : State} (active : new ≠ 0 → (s.cands[c]).state.isActive = true) :
    Prepares s (setClass c new s) := by
  unfold setClass
  dsimp only
  split
  · exact Prepares.refl s
  · obtain ⟨state, cls⟩ := classChanged_fields { s.cands[c] with cls := new } (s.cands[c]).cls new (newWait s)
    refine Prepares.raise ?_ ..
    refine setCand_prepares fun on gated => gated.newClass state ?_
    rw [cls]
    exact active

theorem setClass_zero_prepares (c : Cand) (s : State) : Prepares s (setClass c 0 s) :=
  setClass_prepares fun h => absurd rfl h

theorem tellLoss_prepares (c : Cand) (s : State) : Prepares s (tellLoss c s) := by
  unfold tellLoss
  split
  · exact Prepares.refl s
  · refine Prepares.raise ?_ ..
    exact setCand_prepares fun _ gated => gated.congr rfl rfl

theorem grade_prepares (c : Cand) (s : State) : Prepares s (grade c s) := by
  unfold grade
  split
  · exact (setLoop_prepares ..).trans (setClass_zero_prepares ..)
  · next valid =>
    split
    · dsimp only
      refine Prepares.trans ?_ (setClass_zero_prepares ..)
      split
      · exact setLoop_prepares ..
      · exact (setLoop_prepares ..).trans (raise_prepares ..)
    · refine (setLoop_prepares c false s).trans (setClass_prepares fun _ => ?_)
      have state : (s.cands[c]).state = .valid := by simpa using valid
      unfold setLoop
      rw [setCand_same, state]
      rfl

theorem gradeCandidate_prepares (c : Cand) (s : State) : Prepares s (gradeCandidate c s) := by
  unfold gradeCandidate
  split
  · exact (tellLoss_prepares ..).trans (grade_prepares ..)
  · exact Prepares.refl s

theorem classEvaluation_sound (s : State) (h : SelectorSound s) : SelectorSound (classEvaluation s) :=
  Prepares.evaluate (forCands_prepares _ gradeCandidate_prepares s) h ..

/-! ### Activity loss (R76 to R78, R99, R107) -/

/-- An activity loss of the selected candidate ends in an evaluation (R107). -/
theorem wentInactive_selected {c : Cand} {s : State} (h : s.sel.selection = some c) : ∃ v : State,
    v.sel = s.sel ∧ v.cfg = s.cfg ∧ v.cands = s.cands.set c (Claim.lost (decide (Claim.GradingToCome s c)) s.cands[c])
      ∧ Claim.wentInactive c s = evaluate .activityLoss none v := by
  refine ⟨_, ?_, ?_, ?_, if_pos h⟩
  all_goals
    split
    · rfl
    · rfl

theorem lost_prepares {c : Cand} {s v : State} (active : (s.cands[c]).state.isActive = true) {owed : Bool}
    (cfg : v.cfg = s.cfg) (requests : RequestsFall s v) (cands : v.cands = s.cands.set c (Claim.lost owed s.cands[c])) :
    Prepares s v := by
  have record := setCand_prepares (s := s) (c := c) fun on gated => gated.lost active owed
  exact ⟨by rw [cfg], requests, fun d on gated => by rw [cands]; exact record.gates d on gated⟩

theorem goInactive_prepares (c : Cand) (s : State) : Prepares s (goInactive c s) := by
  by_cases active : (s.cands[c]).state.isActive = true
  · rw [goInactive_active active]
    have cfg := (wentInactive_grades active).cfg
    by_cases selected : s.sel.selection = some c
    · obtain ⟨v, sel, vcfg, cands, evaluated⟩ := wentInactive_selected selected
      rw [evaluated]
      exact (lost_prepares active vcfg (requestsFall_of_same sel) cands).trans (evaluate_prepares ..)
    · exact lost_prepares active cfg (requestsFall_of_same (wentInactive_unselected selected).1) (wentInactive_cands c s)
  · rw [goInactive_inactive active]
    exact Prepares.refl s

/-- An activity loss ends in an evaluation, or is not the selected candidate's (R107). -/
theorem goInactive_sound (c : Cand) (s : State) (h : SelectorSound s) : SelectorSound (goInactive c s) := by
  by_cases active : (s.cands[c]).state.isActive = true
  · have prepares := goInactive_prepares c s
    rw [goInactive_active active] at prepares ⊢
    by_cases selected : s.sel.selection = some c
    · obtain ⟨v, sel, cfg, cands, evaluated⟩ := wentInactive_selected selected
      rw [evaluated]
      exact (lost_prepares active cfg (requestsFall_of_same sel) cands).evaluate h ..
    · obtain ⟨stand, gated, fit⟩ := h
      have sel := (wentInactive_unselected selected).1
      refine ⟨prepares.requests.stand prepares.cfg stand, prepares.gated gated, fun d now => ?_⟩
      rw [sel] at now
      have other : d ≠ c := fun same => selected (same ▸ now)
      have record : (Claim.wentInactive c s).cands[d] = s.cands[d] := by
        rw [wentInactive_cands]
        exact setCand_other s c d _ other
      unfold forcedNames
      rw [sel, prepares.cfg, record]
      exact fit d now
  · rw [goInactive_inactive active]
    exact h

theorem tellMonitors_prepares (n : Trunk) (s : State) : Prepares s (tellMonitors n s) :=
  forCands_prepares _ (fun c s => by
    split
    · exact goInactive_prepares ..
    · exact Prepares.refl s) s

theorem tellMonitors_selector (n : Trunk) (s : State) (h : SelectorSound s) : SelectorSound (tellMonitors n s) :=
  foldl_keeps SelectorSound _ _ s h fun u c hu => by
    dsimp only
    split
    · exact goInactive_sound c u hu
    · exact hu

theorem expireActivity_selector (c : Cand) (s : State) (h : SelectorSound s) : SelectorSound (expireActivity c s) := by
  unfold expireActivity
  split
  · exact goInactive_sound c s h
  · exact h

/-! ### Operations that leave the selected candidate as fit as it was -/

/-- A record that is as fit to be selected as it was. -/
structure Runtime.Upholds (r r' : Runtime) : Prop where
  absent : r'.state = .absent ↔ r.state = .absent
  active : r.state.isActive = true → r'.state.isActive = true
  cls : r'.cls = r.cls
  wait : r.wait = none → r'.wait = none

theorem Runtime.Upholds.refl (r : Runtime) : r.Upholds r := ⟨Iff.rfl, id, rfl, id⟩

theorem Runtime.Upholds.trans {a b c : Runtime} (h : a.Upholds b) (g : b.Upholds c) : a.Upholds c :=
  ⟨g.absent.trans h.absent, fun x => g.active (h.active x), g.cls.trans h.cls, fun x => g.wait (h.wait x)⟩

/-- No request, lockout or selection has changed, and every candidate is as fit as it was. -/
structure Upheld (s t : State) : Prop where
  cfg : t.cfg = s.cfg
  sel : t.sel = { s.sel with timeouts := t.sel.timeouts }
  record : ∀ c : Cand, (s.cands[c]).Upholds t.cands[c]

theorem upheld_of_same {s t : State} (cfg : t.cfg = s.cfg) (sel : t.sel = s.sel) (cands : t.cands = s.cands) :
    Upheld s t := ⟨cfg, by rw [sel], fun c => by rw [cands]; exact .refl _⟩

theorem Upheld.refl (s : State) : Upheld s s := upheld_of_same rfl rfl rfl

theorem Upheld.trans {s t u : State} (h : Upheld s t) (g : Upheld t u) : Upheld s u :=
  ⟨g.cfg.trans h.cfg, by rw [g.sel, h.sel], fun c => (h.record c).trans (g.record c)⟩

section
variable {s t : State} (h : Upheld s t)
include h

theorem Upheld.lockout : t.sel.lockout = s.sel.lockout := by rw [h.sel]
theorem Upheld.forced : t.sel.forced = s.sel.forced := by rw [h.sel]
theorem Upheld.manual : t.sel.manual = s.sel.manual := by rw [h.sel]
theorem Upheld.selection : t.sel.selection = s.sel.selection := by rw [h.sel]

end

theorem Upheld.prepares {s t : State} (h : Upheld s t) : Prepares s t := by
  refine ⟨by rw [h.cfg], ⟨h.lockout, fun f => h.forced ▸ id, fun m => h.manual ▸ id⟩, fun c on gated => ?_⟩
  have record := h.record c
  exact ⟨record.absent.trans gated.1, fun cls => record.active (gated.2 (record.cls ▸ cls))⟩

theorem Upheld.sound {s t : State} (h : Upheld s t) (sound : SelectorSound s) : SelectorSound t := by
  obtain ⟨stand, gated, fit⟩ := sound
  refine ⟨h.prepares.requests.stand h.prepares.cfg stand, h.prepares.gated gated, fun c selected => ?_⟩
  rw [h.selection] at selected
  obtain ⟨enabled, lockout, active, forced⟩ := fit c selected
  have record := h.record c
  refine ⟨by rw [h.cfg]; exact enabled, by rw [h.lockout]; exact lockout, record.active active, ?_⟩
  unfold forcedNames
  rw [h.forced, record.cls]
  exact forced.imp_right fun ⟨cls, wait⟩ => ⟨cls, record.wait wait⟩

theorem setCand_upheld {s : State} {c : Cand} {r : Runtime} (h : (s.cands[c]).Upholds r) : Upheld s (s.setCand c r) := by
  refine ⟨rfl, rfl, fun d => ?_⟩
  by_cases same : d = c
  · subst same
    rw [setCand_same]
    exact h
  · rw [setCand_other _ _ _ _ same]
    exact .refl _

theorem raise_upheld (kind : EventKind) (subject : Subject) (detail : Word16) (s : State) :
    Upheld s (raise kind subject detail s) := upheld_of_same rfl rfl rfl

theorem Upheld.raise {s t : State} (h : Upheld s t) (kind : EventKind) (subject : Subject) (detail : Word16) :
    Upheld s (raise kind subject detail t) := h.trans (raise_upheld ..)

theorem forCands_upheld (f : Cand → State → State) (step : ∀ c s, Upheld s (f c s)) (s : State) :
    Upheld s (forCands f s) := foldl_reach Upheld Upheld.refl Upheld.trans _ (fun s c => step c s) _ s

/-! ### Markers, windows and waits (R73 to R75, R121) -/

/-- A marker makes an INACTIVE monitor active and changes no class (R73, R74). -/
theorem takeMarker_upheld (c : Cand) (stamp : Tick) (s : State) : Upheld s (takeMarker c stamp s) := by
  unfold takeMarker
  dsimp only
  split
  · exact Upheld.refl s
  · next inactive =>
    refine Upheld.raise ?_ ..
    refine setCand_upheld ⟨iff_of_false ?_ ?_, fun _ => rfl, rfl, id⟩
    · exact nofun
    · rw [inactive]
      exact nofun
  all_goals exact setCand_upheld ⟨Iff.rfl, id, rfl, id⟩

theorem raiseMarker_upheld (src : Source) (stamp : Tick) (s : State) : Upheld s (raiseMarker src stamp s) :=
  forCands_upheld _ (fun c s => by
    split
    · exact takeMarker_upheld ..
    · exact Upheld.refl s) s

theorem stationEdge_upheld (i : Station) (s : State) : Upheld s (stationEdge i s) := by
  unfold stationEdge
  dsimp only
  split
  · exact Upheld.refl s
  · refine Upheld.trans ?_ (raiseMarker_upheld ..)
    cases i <;> exact upheld_of_same rfl rfl rfl

theorem verdict_active (limit : Nat) (d : Int) (hits : Nat) : (verdict limit d hits).isActive = true := by
  unfold verdict
  split <;> rfl

/-- A window end leaves an active monitor active (R75). -/
theorem endWindow_upheld (c : Cand) (s : State) : Upheld s (endWindow c s) := by
  unfold endWindow
  split
  · next due =>
    have active := ((windowEndDue_iff s c).mp due).1
    have present : ∀ m : MonitorState, m.isActive = true → m ≠ .absent := by
      rintro m active rfl
      exact absurd active nofun
    have judged := verdict_active s.cfg.freqLimit (s.cands[c]).windowDeviation (s.cands[c]).hits
    have ended : Upheld s (s.setCand c { s.cands[c] with
        state := verdict s.cfg.freqLimit (s.cands[c]).windowDeviation (s.cands[c]).hits
        deviation := some (s.cands[c]).windowDeviation, lastHits := some (s.cands[c]).hits
        windowStart := (s.cands[c]).latest, intervals := 0, hits := 0 }) :=
      setCand_upheld ⟨iff_of_false (present _ judged) (present _ active), fun _ => judged, rfl, id⟩
    dsimp only
    split
    · exact ended
    · exact ended.trans (raise_upheld ..)
  · exact Upheld.refl s

/-- A count-down begins no wait (R121). -/
theorem countWait_upheld (e : Epoch) (c : Cand) (s : State) : Upheld s (countWait e c s) := by
  unfold countWait
  refine setCand_upheld ⟨Iff.rfl, id, rfl, fun none => ?_⟩
  dsimp only
  rw [none]
  rfl

theorem countWaitsAt_upheld (e : Epoch) (s : State) : Upheld s (countWaitsAt e s) :=
  forCands_upheld _ (countWait_upheld e) s

theorem endWait_upheld (c : Cand) (s : State) : Upheld s (endWait c s) := by
  unfold endWait
  split
  · exact countWaitsAt_upheld ..
  · exact Upheld.refl s

/-! ### Acquire timeouts and the phase sample (R123, R134 to R142) -/

theorem takeTimeout_sound (c : Cand) (s : State) (h : SelectorSound s) : SelectorSound (takeTimeout c s) := by
  have failed : Upheld s (s.setCand c { s.cands[c] with lockFail := true }) := setCand_upheld ⟨Iff.rfl, id, rfl, id⟩
  unfold takeTimeout
  dsimp only
  generalize s.setCand c { s.cands[c] with lockFail := true } = t at failed ⊢
  split
  · exact failed.sound h
  · refine Prepares.evaluate (failed.prepares.trans ?_) h ..
    split
    · exact setCand_prepares fun _ gated => gated.congr rfl rfl
    · exact Prepares.refl t

theorem takeHandedTimeout_sound (s : State) (h : SelectorSound s) : SelectorSound (takeHandedTimeout s) := by
  unfold takeHandedTimeout
  split
  · exact h
  · next cs _ =>
    have taken : Upheld s (s.setSel { s.sel with timeouts := cs }) := ⟨rfl, rfl, fun _ => .refl _⟩
    exact takeTimeout_sound _ _ (taken.sound h)

theorem timeOut_upheld (c : Cand) (s : State) : Upheld s (timeOut c s) := ⟨rfl, rfl, fun _ => .refl _⟩

theorem acquireTimeoutStep_sound (s : State) (h : SelectorSound s) : SelectorSound (acquireTimeoutStep s) := by
  have handed : Upheld s (timeOutIfReached s) := by
    unfold timeOutIfReached
    split
    · split
      · exact timeOut_upheld ..
      · exact Upheld.refl s
    · exact Upheld.refl s
  exact takeHandedTimeout_sound _ (handed.sound h)

theorem setSynth_upheld (s : State) (y : Synth) : Upheld s (s.setSynth y) := upheld_of_same rfl rfl rfl

theorem enterSynth_upheld (new : SynthState) (s : State) : Upheld s (enterSynth new s) :=
  upheld_of_same (enterSynth_cfg ..) (enterSynth_sel ..) (enterSynth_steers ..).cands

theorem countAcquire_upheld (c : Cand) (s : State) : Upheld s (countAcquire c s) := by
  unfold countAcquire
  dsimp only
  generalize (if s.synth.lastD.natAbs ≤ 4 then bump 8 s.synth.lockCount else 0) = lock
  split
  · exact (setSynth_upheld ..).trans ((setSynth_upheld ..).trans ((enterSynth_upheld ..).trans
      (setCand_upheld ⟨Iff.rfl, id, rfl, id⟩)))
  · split
    · exact (setSynth_upheld ..).trans (timeOut_upheld ..)
    · exact setSynth_upheld ..

theorem countLocked_upheld (c : Cand) (s : State) : Upheld s (countLocked c s) := by
  unfold countLocked
  dsimp only
  generalize (if 32 < s.synth.lastD.natAbs then bump 2 s.synth.lossCount else 0) = loss
  split
  · exact (setSynth_upheld ..).trans (enterSynth_upheld ..)
  · unfold recordHistory
    dsimp only
    split
    · exact (setSynth_upheld ..).trans ((setSynth_upheld ..).trans (raise_upheld ..))
    · exact (setSynth_upheld ..).trans (setSynth_upheld ..)

/-- A phase sample changes nothing of a candidate but its lock-fail flag (R138). -/
theorem phaseSample_upheld (s : State) : Upheld s (phaseSample s) := by
  unfold phaseSample
  split
  · exact Upheld.refl s
  · split
    · exact Upheld.refl s
    · dsimp only
      split
      · exact (setSynth_upheld s _).trans (countAcquire_upheld ..)
      · exact (setSynth_upheld s _).trans (countLocked_upheld ..)
      · exact Upheld.refl s
      · exact Upheld.refl s

end Sys2Proof.Machine
end

section
/-! OBLIGATION. Every step keeps the standing requests and the selected candidate fit (R72, R88, R99, R106, R108, R116). -/

namespace Sys2Proof.Machine

/-! ### Trunks: markers, and monitors told of a loss of alignment (R10, R17) -/

theorem Reports.upheld {s t : State} (h : Reports s t) : Upheld s t := by
  rw [h.1]
  exact upheld_of_same rfl rfl rfl

theorem setFramer_upheld (n : Trunk) (x : Framer) (s : State) : Upheld s (s.setFramer n x) := upheld_of_same rfl rfl rfl
theorem setStore_upheld (n : Trunk) (x : Store) (s : State) : Upheld s (s.setStore n x) := upheld_of_same rfl rfl rfl

theorem slip_upheld (n : Trunk) (kind : SlipKind) (held : Nat) (s : State) : Upheld s (slip n kind held s) := by
  unfold slip
  dsimp only
  split <;> exact upheld_of_same rfl rfl rfl

theorem storeArrival_upheld (n : Trunk) (r : FrameRecord) (s : State) : Upheld s (storeArrival n r s) := by
  unfold storeArrival
  dsimp only
  split
  · exact Upheld.refl s
  · exact setStore_upheld ..
  · split
    · exact setStore_upheld ..
    · exact (setStore_upheld ..).trans (slip_upheld ..)

theorem joinFrame_upheld (n : Trunk) (o : Octet) (s : State) : Upheld s (joinFrame n o s) := setStore_upheld ..

theorem leaveAligned_selector (n : Trunk) (new : FramerState) (before : Option Nat) (s : State) (h : SelectorSound s) :
    SelectorSound (leaveAligned n new before s) := by
  have told := tellMonitors_selector n _ ((setStore_upheld n (s.stores[n]).flush s).sound h)
  have left : ∀ x, SelectorSound (raiseTrunkState n s.framers[n].state new
      ((tellMonitors n (s.setStore n (s.stores[n]).flush)).setFramer n x)) := fun x =>
    ((setFramer_upheld n x _).trans (raise_upheld ..)).sound told
  unfold leaveAligned
  dsimp only
  split
  · exact (raiseAlarmFrom_reports ..).upheld.sound (left _)
  · exact left _

theorem completeFrame_selector (n : Trunk) (a : Alignment) (octets : List Octet) (before : Nat) (s : State)
    (h : SelectorSound s) : SelectorSound (completeFrame n a octets before s) := by
  have done : ∀ x r F, Upheld s (recomputeQl ((storeArrival n r (s.setStore n x)).setFramer n F)) := fun x r F =>
    (setStore_upheld n x s).trans ((storeArrival_upheld n r _).trans ((setFramer_upheld n F _).trans (setSynth_upheld ..)))
  unfold completeFrame
  dsimp only
  split
  · exact leaveAligned_selector _ _ _ _ ((done ..).sound h)
  · exact ((done ..).trans (raiseAlarmFrom_reports ..).upheld).sound h

theorem alignedOctet_selector (n : Trunk) (a : Alignment) (o : Octet) (before : Nat) (s : State) (h : SelectorSound s) :
    SelectorSound (alignedOctet n a o before s) := by
  unfold alignedOctet
  dsimp only
  split
  · exact ((setFramer_upheld ..).trans (joinFrame_upheld ..)).sound h
  · exact ((setFramer_upheld ..).trans ((joinFrame_upheld ..).trans (raiseMarker_upheld ..))).sound h
  · split
    · exact (joinFrame_upheld ..).sound h
    · exact completeFrame_selector _ _ _ _ s h

theorem enterAligned_upheld (n : Trunk) (f : Fin 16) (o : Octet) (s : State) : Upheld s (enterAligned n f o s) :=
  (setFramer_upheld ..).trans ((raise_upheld ..).trans ((setStore_upheld ..).trans (raiseMarker_upheld ..)))

theorem confirmOctet_upheld (n : Trunk) (f : Fin 16) (kept : List Octet) (o : Octet) (s : State) :
    Upheld s (confirmOctet n f kept o s) := by
  unfold confirmOctet
  dsimp only
  split
  · split
    · exact setFramer_upheld ..
    · exact enterAligned_upheld ..
  · exact setFramer_upheld ..

theorem handleOctet_selector (n : Trunk) (o : Octet) (before : Nat) (s : State) (h : SelectorSound s) :
    SelectorSound (handleOctet n o before s) := by
  unfold handleOctet
  dsimp only
  split
  · exact h
  · exact ((setFramer_upheld ..).trans (raise_upheld ..)).sound h
  · exact (setFramer_upheld ..).sound h
  · exact (confirmOctet_upheld ..).sound h
  · exact alignedOctet_selector _ _ _ _ s h

theorem octetArrival_selector (n : Trunk) (o : Octet) (s : State) (h : SelectorSound s) :
    SelectorSound (octetArrival n o s) := by
  unfold octetArrival
  dsimp only
  split
  · exact h
  · split
    · exact handleOctet_selector _ _ _ _ ((setFramer_upheld ..).sound h)
    · exact handleOctet_selector _ _ _ _ (((setFramer_upheld ..).trans (raiseAlarmFrom_reports ..).upheld).sound h)

theorem expireSignal_selector (n : Trunk) (s : State) (h : SelectorSound s) : SelectorSound (expireSignal n s) := by
  have lost : ∀ x y a b, Upheld s (raiseAlarmFrom n a (raiseTrunkState n b .noSignal ((s.setFramer n x).setFramer n y))) :=
    fun x y a b => (setFramer_upheld n x s).trans ((setFramer_upheld n y _).trans ((raise_upheld ..).trans
      (raiseAlarmFrom_reports ..).upheld))
  unfold expireSignal
  split
  · dsimp only
    split
    · exact h
    · exact ((setFramer_upheld ..).trans (raiseAlarmFrom_reports ..).upheld).sound h
    · exact (lost ..).sound h
    · exact (lost ..).sound h
    · exact leaveAligned_selector _ _ _ _ ((setFramer_upheld ..).sound h)
  · exact h

theorem restartTrunk_selector (n : Trunk) (s : State) (h : SelectorSound s) : SelectorSound (restartTrunk n s) := by
  unfold restartTrunk
  dsimp only
  split
  · exact h
  · exact h
  · exact (setFramer_upheld ..).sound h
  · exact (setFramer_upheld ..).sound h
  · exact leaveAligned_selector _ _ _ s h

/-! ### A frame start, and the window end of a store -/

theorem frameUnit_selector (u : FrameUnit) (s : State) (h : SelectorSound s) : SelectorSound (u.take s) := by
  cases u with
  | length | frameQl => exact Upheld.sound (upheld_of_same rfl rfl rfl) h
  | classes => exact classEvaluation_sound s h
  | waits => exact (countWaitsAt_upheld s.gen.epoch s).sound h
  | timeout => exact takeHandedTimeout_sound s h
  | sample => exact (phaseSample_upheld s).sound h
  | read n =>
    have judges := readStore_judges n s
    exact (upheld_of_same (readStore_cfg n s) judges.sel judges.cands).sound h

theorem outputsFixed_upheld (s : State) : Upheld s (outputsFixed s) := by
  have shape := (outputsFixed_shape s).1
  exact upheld_of_same (by rw [shape]) (by rw [shape]) (by rw [shape])

theorem startFrame_selector (ord : Nat) (s : State) (h : SelectorSound s) : SelectorSound (startFrame ord s) := by
  have begun : Upheld s (advanceGenerator s) := upheld_of_same rfl rfl rfl
  have units : ∀ us, SelectorSound (unitsDone us s) := fun us =>
    foldl_keeps SelectorSound _ us _ (begun.sound h) fun t u ht => frameUnit_selector u t ht
  rw [startFrame_eq]
  exact (outputsFixed_upheld _).sound (units _)

theorem endSlipWindow_upheld (n : Trunk) (s : State) : Upheld s (endSlipWindow n s) := by
  have ended : ∀ e u, Upheld u (endStoreWindow n e u) := fun e u => by
    unfold endStoreWindow
    dsimp only
    split
    · split
      · exact (setStore_upheld ..).trans (raise_upheld ..)
      · exact setStore_upheld ..
    · exact setStore_upheld ..
  unfold endSlipWindow
  split
  · exact Upheld.refl s
  · next e _ =>
    have begins : Upheld s { s with gen := { s.gen with epoch := e } } := upheld_of_same rfl rfl rfl
    exact begins.trans ((ended e _).trans (upheld_of_same rfl rfl rfl))

/-! ### SWITCH actions (R112 to R118, R122) -/

/-- An evaluation after a change of the requests is sound where the requests stand. -/
theorem evaluate_setSel_sound {s : State} (h : SelectorSound s) {x : Selector} (stand : RequestsStand (s.setSel x))
    (why : EvalCause) (ret : Option Cand) : SelectorSound (evaluate why ret (s.setSel x)) := by
  obtain ⟨-, gated, -⟩ := h
  exact evaluate_sound stand gated why ret

/-- A LOCKOUT drops the requests on its candidate before it evaluates (R112). -/
theorem lockoutAction_sound (l : LinkId) (c : Cand) (s : State) (h : SelectorSound s) :
    SelectorSound (lockoutAction l c s).2 := by
  obtain ⟨stand, gated, -⟩ := h
  let locked := s.setSel { s.sel with lockout := s.sel.lockout.set c true }
  let freed := dropManualIf (· == c) .lockout (dropForcedIf (· == c) .lockout locked)
  change SelectorSound (evaluate (.request l) none freed)
  have steers : Steers locked freed := (dropForcedIf_steers ..).trans (dropManualIf_steers ..)
  have lockout : freed.sel.lockout = s.sel.lockout.set c true := (dropManualIf_lockout ..).trans (dropForcedIf_lockout ..)
  have others : ∀ d : Cand, (d == c) = false → freed.sel.lockout[d] = s.sel.lockout[d] := fun d other => by
    rw [lockout]
    exact vector_set_other _ _ (beq_eq_false_iff_ne.mp other)
  have cfg : freed.cfg = s.cfg := steers.works.cfg
  refine evaluate_sound ⟨fun f forced d target => ?_, fun m manual => ?_⟩ ?_ ..
  · rw [dropManualIf_forced] at forced
    obtain ⟨standing, other⟩ := dropForcedIf_forced _ _ _ forced
    rw [others d (other d target), cfg]
    exact stand.1 f standing d target
  · obtain ⟨standing, other⟩ := dropManualIf_manual _ _ _ manual
    rw [dropForcedIf_manual] at standing
    rw [others _ other]
    exact stand.2 m standing
  · unfold CandidatesGated
    rw [cfg, steers.cands]
    exact gated

theorem unlockAction_sound (l : LinkId) (c : Cand) (s : State) (h : SelectorSound s) :
    SelectorSound (unlockAction l c s).2 := by
  unfold unlockAction
  split
  · have unlocked : ∀ d : Cand, s.sel.lockout[d] = false → (s.sel.lockout.set c false)[d] = false := fun d free => by
      by_cases same : d = c
      · subst same
        exact Vector.getElem_set_self _
      · rw [vector_set_other _ _ same]
        exact free
    obtain ⟨forced, manual⟩ := h.1
    refine evaluate_setSel_sound h ?_ ..
    refine ⟨fun f standing d target => ?_, fun m standing => unlocked _ (manual m standing)⟩
    obtain ⟨free, enabled⟩ := forced f standing d target
    exact ⟨unlocked d free, enabled⟩
  · exact h

theorem placeForced_sound (l : LinkId) (target : Option Cand) (s : State) (h : SelectorSound s)
    (able : ∀ c, target = some c → s.sel.lockout[c] = false ∧ (s.cfg.cands[c]).enabled = true) :
    SelectorSound (placeForced l target s) := by
  obtain ⟨-, manual⟩ := h.1
  refine evaluate_setSel_sound h ?_ ..
  refine ⟨?_, manual⟩
  rintro f ⟨⟩ c named
  exact able c named

theorem forceAction_sound (l : LinkId) (c : Cand) (s : State) (h : SelectorSound s) :
    SelectorSound (forceAction l c s).2 := by
  unfold forceAction
  split
  · exact h
  · next enabled =>
    split
    · exact h
    · next free =>
      refine placeForced_sound l (some c) s h ?_
      rintro d ⟨⟩
      exact ⟨Bool.eq_false_of_not_eq_true free, by simpa using enabled⟩

theorem manualAction_sound (l : LinkId) (c : Cand) (s : State) (h : SelectorSound s) :
    SelectorSound (manualAction l c s).2 := by
  unfold manualAction
  split
  · exact h
  · split
    · exact h
    · next free =>
      split
      · exact h
      · obtain ⟨forced, -⟩ := h.1
        refine evaluate_setSel_sound h ?_ ..
        refine ⟨forced, ?_⟩
        rintro m ⟨⟩
        exact Bool.eq_false_of_not_eq_true free

theorem releaseForcedAction_sound (l : LinkId) (back : Bool) (s : State) (h : SelectorSound s) :
    SelectorSound (releaseForcedAction l back s).2 := by
  unfold releaseForcedAction
  split
  · exact h
  · obtain ⟨-, manual⟩ := h.1
    refine evaluate_setSel_sound h ?_ ..
    exact ⟨nofun, manual⟩

theorem releaseManualAction_sound (l : LinkId) (back : Bool) (s : State) (h : SelectorSound s) :
    SelectorSound (releaseManualAction l back s).2 := by
  unfold releaseManualAction
  split
  · exact h
  · obtain ⟨forced, -⟩ := h.1
    refine evaluate_setSel_sound h ?_ ..
    exact ⟨forced, nofun⟩

theorem clearWaitAction_sound (l : LinkId) (c : Cand) (s : State) (h : SelectorSound s) :
    SelectorSound (clearWaitAction l c s).2 := by
  unfold clearWaitAction
  split
  · refine Prepares.evaluate ?_ h ..
    exact setCand_prepares fun _ gated => gated.congr rfl rfl
  · exact h

theorem onCandidate_sound (operand : Octet) (f : Cand → State → Status × State) (s : State) (h : SelectorSound s)
    (act : ∀ c, SelectorSound (f c s).2) : SelectorSound (onCandidate operand f s).2 := by
  unfold onCandidate
  split
  · exact act _
  · exact h

theorem switchAction_sound (l : LinkId) (action operand option : Octet) (s : State) (h : SelectorSound s) :
    SelectorSound (switchAction l action operand option s).2 := by
  unfold switchAction
  split
  · exact onCandidate_sound _ _ s h fun c => lockoutAction_sound l c s h
  · exact onCandidate_sound _ _ s h fun c => unlockAction_sound l c s h
  · exact onCandidate_sound _ _ s h fun c => forceAction_sound l c s h
  · exact placeForced_sound l none s h nofun
  · exact onCandidate_sound _ _ s h fun c => manualAction_sound l c s h
  · split
    · exact releaseForcedAction_sound l _ s h
    · split
      · exact releaseManualAction_sound l _ s h
      · exact h
  · exact onCandidate_sound _ _ s h fun c => clearWaitAction_sound l c s h
  · exact h

/-! ### An apply (R80, R81, R124, R160) -/

/-- A disable acts on the candidates and the selector through the monitors of its trunk alone (R17). -/
theorem disableTrunk_prepares (n : Trunk) (s : State) : Prepares s (disableTrunk n s) := by
  have cfg : (disableTrunk n s).cfg.cands = s.cfg.cands := by rw [(disableTrunk_works n s).cfg]
  have told := (setStore_upheld n (Claim.flushed s.stores[n]) s).prepares.trans (tellMonitors_prepares n _)
  rcases disableTrunk_reference n s with ⟨cands, sel⟩ | ⟨cands, sel⟩
  · exact prepares_of_same cfg sel cands
  · exact ⟨cfg, told.requests.trans (requestsFall_of_same sel),
      fun c on gated => by rw [cands]; exact told.gates c on gated⟩

theorem applyTrunk_prepares (old : Settings) (n : Trunk) (s : State) : Prepares s (applyTrunk old n s) := by
  unfold applyTrunk
  split
  · exact Prepares.refl s
  · split
    · exact prepares_of_same rfl rfl rfl
    · exact disableTrunk_prepares n s

theorem applyUnit_requests (old : Settings) (u : ApplyUnit) (s : State) : RequestsFall s (u.take old s) := by
  cases u with
  | trunk n => exact (applyTrunk_prepares old n s).requests
  | candidate c => exact requestsFall_of_same (applyCandidate_sel old c s)

theorem applyUnder_requests (ord : Nat) (old : Settings) (s : State) : RequestsFall s (applyUnder ord old s) := by
  have policy : RequestsFall s { s with cfg := s.cfg.withPolicy old } := requestsFall_of_same rfl
  have units := foldl_reach RequestsFall RequestsFall.refl RequestsFall.trans (fun s (u : ApplyUnit) => u.take old s)
    (fun s u => applyUnit_requests old u s) (inOrder ord applyUnits) { s with cfg := s.cfg.withPolicy old }
  exact policy.trans (units.trans (requestsFall_of_same rfl))

/-- The gate of candidate c is kept, under the same settings. -/
structure KeepsGate (c : Cand) (s t : State) : Prop where
  cfg : t.cfg = s.cfg
  gate : ∀ on, (s.cands[c]).gated on → (t.cands[c]).gated on

theorem KeepsGate.refl (c : Cand) (s : State) : KeepsGate c s s := ⟨rfl, fun _ h => h⟩

theorem KeepsGate.trans {c : Cand} {s t u : State} (h : KeepsGate c s t) (g : KeepsGate c t u) : KeepsGate c s u :=
  ⟨g.cfg.trans h.cfg, fun on gated => g.gate on (h.gate on gated)⟩

/-- Every unit but a candidate's own keeps its gate. -/
theorem applyUnit_keepsGate (old : Settings) (c : Cand) (u : ApplyUnit) (other : u ≠ .candidate c) (s : State) :
    KeepsGate c s (u.take old s) := by
  cases u with
  | trunk n => exact ⟨(applyTrunk_works old n s).cfg, fun on => (applyTrunk_prepares old n s).gates c on⟩
  | candidate d =>
    have stands : CandStands c s (applyCandidate old d s) := applyCandidate_other old (fun same => other (by rw [same])) s
    exact ⟨stands.cfg, fun on gated => gated.congr (congrArg Runtime.state stands.cand) (congrArg Runtime.cls stands.cand)⟩

/-- A candidate's own unit takes it from the old enable to the new one (R72, R80). -/
theorem applyCandidate_gated {old : Settings} {c : Cand} {s : State} (h : (s.cands[c]).gated (old.cands[c]).enabled) :
    ((applyCandidate old c s).cands[c]).gated (s.cfg.cands[c]).enabled := by
  by_cases changed : (old.cands[c]).enabled ≠ (s.cfg.cands[c]).enabled
      ∨ (old.cands[c]).source ≠ (s.cfg.cands[c]).source ∧ (s.cfg.cands[c]).enabled = true
  · rw [applyCandidate_cand changed]
    exact renewed_gated ..
  · obtain ⟨enabled, source⟩ := not_or.mp changed
    have same := not_not.mp enabled
    rw [applyCandidate_same same, ← same]
    · exact h
    · by_cases moved : (old.cands[c]).source = (s.cfg.cands[c]).source
      · exact .inl moved
      · exact .inr (Bool.eq_false_of_not_eq_true fun on => source ⟨moved, on⟩)

/-- Each candidate's own unit is taken once, and every other unit keeps the gate (R81). -/
theorem applyUnder_gated (ord : Nat) {old : Settings} {c : Cand} {s : State}
    (h : (s.cands[c]).gated (old.cands[c]).enabled) :
    ((applyUnder ord old s).cands[c]).gated (s.cfg.cands[c]).enabled := by
  have order := inOrder_perm ord applyUnits
  obtain ⟨v, before, later⟩ := foldl_at (KeepsGate c) (KeepsGate.refl c) KeepsGate.trans
    (fun s (u : ApplyUnit) => u.take old s) (.candidate c) (inOrder ord applyUnits) (orderedUnits_nodup order)
    (mem_orderedUnits order _) (fun u _ other s => applyUnit_keepsGate old c u other s)
    { s with cfg := s.cfg.withPolicy old }
  have own := applyCandidate_gated (before.gate _ h)
  have enabled : (v.cfg.cands[c]).enabled = (s.cfg.cands[c]).enabled := by
    rw [before.cfg]
    exact Settings.withPolicy_enabled ..
  rw [enabled] at own
  exact later.gate _ own

/-- The selector's own action drops the requests on disabled candidates and evaluates (R124). -/
theorem applySelector_sound (l : LinkId) (s : State) (clear : RequestsClear s) (gated : CandidatesGated s) :
    SelectorSound (applySelector l s) := by
  let disabled := fun c : Cand => !(s.cfg.cands[c]).enabled
  let freed := dropManualIf disabled .disabled (dropForcedIf disabled .disabled s)
  change SelectorSound (evaluate (.commit l) none freed)
  have steers : Steers s freed := (dropForcedIf_steers ..).trans (dropManualIf_steers ..)
  have falls : RequestsFall s freed := (dropForcedIf_fall ..).trans (dropManualIf_fall ..)
  have cfg : freed.cfg = s.cfg := steers.works.cfg
  obtain ⟨forcedClear, manualClear⟩ := falls.clear clear
  refine evaluate_sound ⟨fun f forced c target => ⟨forcedClear f forced c target, ?_⟩, manualClear⟩ ?_ ..
  · rw [dropManualIf_forced] at forced
    have on := (dropForcedIf_forced _ _ _ forced).2 c target
    rw [cfg]
    simpa [disabled] using on
  · unfold CandidatesGated
    rw [cfg, steers.cands]
    exact gated

/-- An apply leaves the selector sound, whatever it was between the units (R160). -/
theorem applyBlocks_selector (ord : Nat) {old : Settings} (started : Bool) (l : LinkId) {s : State}
    (clear : RequestsClear s) (gated : ∀ c : Cand, (s.cands[c]).gated (old.cands[c]).enabled) :
    SelectorSound (applyBlocks ord old started l s) := by
  have units := applyUnder_works ord old s
  have ready : ∀ u : State, u.cfg = s.cfg → u.sel = (applyUnder ord old s).sel → u.cands = (applyUnder ord old s).cands →
      SelectorSound (applySelector l (applySynth old u)) := fun u cfg sel cands => by
    have synth := applySynth_steers old u
    refine applySelector_sound l _ ?_ ((candidatesGated_iff _).mpr fun c => ?_)
    · have falls := (applyUnder_requests ord old s).trans
        (requestsFall_of_same (sel ▸ applySynth_sel old u : (applySynth old u).sel = (applyUnder ord old s).sel))
      exact falls.clear clear
    · rw [synth.works.cfg, cfg, synth.cands, cands]
      exact applyUnder_gated ord (gated c)
  rw [applyBlocks_eq]
  split
  · rw [bothLanes_eq]
    exact ready _ units.cfg rfl rfl
  · exact ready _ units.cfg rfl rfl

theorem applyCommit_selector (ord : Nat) (s : State) (h : SelectorSound s) : SelectorSound (applyCommit ord s) := by
  rcases applyCommit_cases ord s with same | ⟨l, e, k, -, shape⟩
  · rw [same]
    exact h
  · obtain ⟨stand, gated, -⟩ := h
    have blocks : SelectorSound (applyBlocks ord s.cfg (!s.startDue) l (installed l e s)) :=
      applyBlocks_selector ord _ l stand.clear gated
    have done : Upheld (applyBlocks ord s.cfg (!s.startDue) l (installed l e s)) (applyCommit ord s) := by
      rw [shape]
      cases l <;> exact upheld_of_same rfl rfl rfl
    exact done.sound blocks

/-! ### Resets -/

/-- After a reset no request stands, nothing is locked out or selected, and every candidate starts again (R127, R164, R171). -/
theorem resetSelector_sound {s : State} (sel : s.sel = Selector.reset)
    (cands : ∀ c : Cand, s.cands[c] = Claim.renewed (s.cfg.cands[c]).enabled) : SelectorSound s := by
  refine ⟨?_, (candidatesGated_iff s).mpr fun c => ?_, fun c selected => ?_⟩
  · unfold RequestsStand
    rw [sel]
    exact ⟨nofun, nofun⟩
  · rw [cands]
    exact (renewed_gated (s.cfg.cands[c]).enabled none)
  · rw [sel] at selected
    exact absurd selected nofun

theorem warmReset_selector (l : LinkId) (s : State) : SelectorSound (warmReset l s) := by
  rw [warmReset_shape]
  exact resetSelector_sound rfl (warmBlocks_cand s)

theorem releasePart_selector (cause : Octet) (s : State) : SelectorSound (releasePart cause s) := by
  refine resetSelector_sound rfl fun c => ?_
  simp only [releasePart, State.released, Settings.reset, Fin.getElem_fin, Vector.getElem_replicate]
  rfl

/-! ### Every move -/

theorem clearCounters_upheld (s : State) : Upheld s (clearCounters s) := by
  have shape := clearCounters_shape s
  exact upheld_of_same (by rw [shape]) (by rw [shape]) (by rw [shape])

theorem restartLink_upheld (l : LinkId) (s : State) : Upheld s (restartLink l s) := by
  have shape := restartLink_shape l s
  exact upheld_of_same (by rw [shape]) (by rw [shape]) (by rw [shape])

theorem afterRead_upheld (l : LinkId) (it : StatusItem) (s : State) : Upheld s (afterRead l it s) := by
  unfold afterRead
  split
  · exact setStore_upheld ..
  all_goals exact Upheld.refl s

theorem setLink_upheld (l : LinkId) (k : Link) (s : State) : Upheld s (s.setLink l k) :=
  upheld_of_same (State.setLink_cfg ..) (State.setLink_sel ..) (State.setLink_cands ..)

/-- Each move keeps the selector sound: it leaves the candidates and the selector as fit as they were, or it ends in an
evaluation. -/
theorem Move.selector {s t : State} (move : Move s t) (h : SelectorSound s) : SelectorSound t := by
  cases move with
  | reply | stage | discard | deliver => exact (setLink_upheld ..).sound h
  | commit | cause | queue | hold | tick => exact Upheld.sound (upheld_of_same rfl rfl rfl) h
  | recenter => exact (setStore_upheld ..).sound h
  | counters => exact ((clearCounters_upheld s).trans (raise_upheld ..)).sound h
  | release => exact releasePart_selector ..
  | octet => exact octetArrival_selector _ _ s h
  | signal => exact expireSignal_selector _ s h
  | frame => exact startFrame_selector _ s h
  | windowEnd => exact (endWindow_upheld ..).sound h
  | wait => exact (endWait_upheld ..).sound h
  | timeout => exact acquireTimeoutStep_sound s h
  | slipWindow => exact (endSlipWindow_upheld ..).sound h
  | edge => exact (stationEdge_upheld ..).sound h
  | activity => exact expireActivity_selector _ s h
  | apply => exact applyCommit_selector _ s h
  | switch => exact switchAction_sound _ _ _ _ s h
  | restart => exact restartTrunk_selector _ s h
  | read => exact (afterRead_upheld ..).sound h
  | resetLink => exact (restartLink_upheld ..).sound h
  | resetPart => exact warmReset_selector ..

/-- Settles O60: every move keeps the selector sound, so every step does. -/
theorem stepsKeepTheSelectorSound : Obligations.StepsKeepTheSelectorSound := by
  unfold Obligations.StepsKeepTheSelectorSound
  exact fun _ _ h e => (step_moves e).keep (fun _ _ move => move.selector) h

end Sys2Proof.Machine
end

section
/-! OBLIGATIONS. Markers and station edges (R69, R71, R73, R74, R84), the end of a window and the expiry of the activity timer
(R75, R76, R78, R84, R99, R107), and the fields of a candidate (R82, R92). -/

namespace Sys2Proof.Machine

/-! ### O29: markers -/

/-- A phase hit needs two intervals (R74). -/
theorem isHit_iff (before : Option Nat) (n interval : Nat) : (2 ≤ n + 1 ∧ isHit before interval = true)
    ↔ (match before with
      | some p => decide (1 ≤ n ∧ (p + 16 < interval ∨ interval + 16 < p))
      | none => false) = true := by
  cases before <;> simp [isHit]

/-- What a marker leaves of a record in each state of its monitor, in the words of the claims (R72 to R74). -/
theorem marked_absent {r : Runtime} (absent : r.state = .absent) (stamp now : Tick) : Claim.marked r stamp now = r := by
  unfold Claim.marked
  rw [absent]

theorem marked_inactive {r : Runtime} (inactive : r.state = .inactive) (stamp now : Tick) :
    Claim.marked r stamp now = r.firstMarker stamp now := by
  unfold Claim.marked
  rw [inactive]
  rfl

theorem marked_active {r : Runtime} (active : r.state.isActive = true) (stamp now : Tick) :
    Claim.marked r stamp now = r.marker stamp now := by
  have hits : ∀ interval, (if 2 ≤ r.intervals + 1 ∧ isHit r.interval interval = true then r.hits + 1 else r.hits)
      = if (match r.interval with
          | some p => decide (1 ≤ r.intervals ∧ (p + 16 < interval ∨ interval + 16 < p))
          | none => false) = true then r.hits + 1 else r.hits := fun interval =>
    if_congr (isHit_iff r.interval r.intervals interval) rfl rfl
  unfold Runtime.marker Claim.marked
  cases state : r.state with
  | absent | inactive =>
    rw [state] at active
    exact absurd active nofun
  | measuring | valid | outOfRange =>
    dsimp only
    rw [hits]
    rfl

/-- A monitor is ABSENT, INACTIVE or active. -/
theorem monitorState_cases (m : MonitorState) : m = .absent ∨ m = .inactive ∨ m.isActive = true := by
  cases m <;> simp [MonitorState.isActive]

/-- No marker makes a monitor INACTIVE (R73, R74). -/
theorem marked_state {r : Runtime} (h : r.state ≠ .inactive) (stamp now : Tick) :
    (Claim.marked r stamp now).state = r.state := by
  rcases monitorState_cases r.state with absent | inactive | active
  · rw [marked_absent absent]
  · exact absurd inactive h
  · rw [marked_active active]
    rfl

section take
variable {c : Cand} {s : State} (stamp : Tick)

theorem takeMarker_absent (absent : (s.cands[c]).state = .absent) : takeMarker c stamp s = s := by
  unfold takeMarker
  dsimp only
  rw [absent]

/-- Only an INACTIVE monitor raises MONITOR at a marker (R73, R84). -/
theorem takeMarker_inactive (inactive : (s.cands[c]).state = .inactive) : takeMarker c stamp s
    = raise .monitor (.candidate c) 0x0102 (s.setCand c (Claim.marked s.cands[c] stamp s.gen.tick)) := by
  rw [marked_inactive inactive]
  unfold takeMarker
  dsimp only
  rw [inactive]
  rfl

theorem takeMarker_active (active : (s.cands[c]).state.isActive = true) :
    takeMarker c stamp s = s.setCand c (Claim.marked s.cands[c] stamp s.gen.tick) := by
  rw [marked_active active]
  unfold takeMarker
  dsimp only
  split
  · next absent => exact absurd active (by rw [absent]; nofun)
  · next inactive => exact absurd active (by rw [inactive]; nofun)
  all_goals rfl

/-- A marker at a monitor that is not INACTIVE writes its record alone (R72, R74). -/
theorem takeMarker_silent (h : (s.cands[c]).state ≠ .inactive) :
    takeMarker c stamp s = s.setCand c (Claim.marked s.cands[c] stamp s.gen.tick) := by
  rcases monitorState_cases (s.cands[c]).state with absent | inactive | active
  · rw [takeMarker_absent stamp absent, marked_absent absent]
    exact congrArg (fun x => { s with cands := x }) (Vector.set_getElem_self _).symm
  · exact absurd inactive h
  · exact takeMarker_active stamp active

end take

/-- A marker at a candidate writes its record, and nothing else but the queues (R72 to R74). -/
theorem takeMarker_reports (c : Cand) (stamp : Tick) (s : State) :
    Reports (s.setCand c (Claim.marked s.cands[c] stamp s.gen.tick)) (takeMarker c stamp s) := by
  by_cases inactive : (s.cands[c]).state = .inactive
  · rw [takeMarker_inactive stamp inactive]
    exact raise_reports ..
  · rw [takeMarker_silent stamp inactive]
    exact Reports.refl _

theorem takeMarker_cands (c : Cand) (stamp : Tick) (s : State) :
    (takeMarker c stamp s).cands = s.cands.set c (Claim.marked s.cands[c] stamp s.gen.tick) := by
  rw [(takeMarker_reports c stamp s).1]
  rfl

section marker
variable (src : Source) (stamp : Tick) (s : State)

/-- The marker of a source reaches candidate c (R69). -/
abbrev Hits (src : Source) (s : State) (c : Cand) : Prop :=
  (s.cfg.cands[c]).enabled = true ∧ (s.cfg.cands[c]).source = src

/-- The marker of a source hits no INACTIVE monitor in u, and the links are those of s. -/
structure Quiet (src : Source) (s u : State) : Prop where
  active : ∀ c : Cand, Hits src u c → (u.cands[c]).state ≠ .inactive
  linkA : u.linkA = s.linkA
  linkB : u.linkB = s.linkB

/-- What the marker of a source does at one candidate (R69). -/
def markCandidate (src : Source) (stamp : Tick) (c : Cand) (s : State) : State :=
  if (s.cfg.cands[c]).enabled && (s.cfg.cands[c]).source == src then takeMarker c stamp s else s

theorem raiseMarker_eq : raiseMarker src stamp s = (List.finRange 8).foldl (fun u c => markCandidate src stamp c u) s := rfl

theorem markCandidate_hit {c : Cand} {s : State} (h : Hits src s c) : markCandidate src stamp c s = takeMarker c stamp s := by
  obtain ⟨enabled, source⟩ := h
  exact if_pos (by rw [enabled, source, beq_self_eq_true]; rfl)

theorem markCandidate_missed {c : Cand} {s : State} (h : ¬ Hits src s c) : markCandidate src stamp c s = s :=
  if_neg fun both => by
    rw [Bool.and_eq_true, beq_iff_eq] at both
    exact h both

theorem markCandidate_grades (c : Cand) : Grades s (markCandidate src stamp c s) := by
  unfold markCandidate
  split
  · exact takeMarker_grades ..
  · exact Grades.refl s

/-- At one candidate the marker changes that candidate's record alone (R69). -/
theorem markCandidate_other {c d : Cand} (other : c ≠ d) : CandStands d s (markCandidate src stamp c s) := by
  have grades := markCandidate_grades src stamp s c
  refine ⟨?_, grades.cfg, grades.gen⟩
  by_cases hit : Hits src s c
  · rw [markCandidate_hit src stamp hit, takeMarker_cands]
    exact setCand_other s c d _ other.symm
  · rw [markCandidate_missed src stamp hit]

/-- A marker changes exactly the candidates it hits (R69, R73, R74). -/
theorem raiseMarker_cand (c : Cand) : (raiseMarker src stamp s).cands[c]
    = if Hits src s c then Claim.marked s.cands[c] stamp s.gen.tick else s.cands[c] := by
  obtain ⟨v, before, later⟩ := foldl_at (CandStands c) (CandStands.refl c) CandStands.trans
    (fun u d => markCandidate src stamp d u) c (List.finRange 8) (List.nodup_finRange 8) (List.mem_finRange c)
    (fun d _ other u => markCandidate_other src stamp u other) s
  have reached : Hits src v c ↔ Hits src s c := by
    unfold Hits
    rw [before.cfg]
  rw [raiseMarker_eq, later.cand]
  split
  · next hit =>
    rw [markCandidate_hit src stamp (reached.mpr hit), takeMarker_cands, before.cand, before.gen]
    exact setCand_same v c _
  · next miss => rw [markCandidate_missed src stamp (reached.not.mpr miss), before.cand]

/-- A marker reaches neither the selector nor the synthesizer (R69). -/
theorem raiseMarker_reference : (raiseMarker src stamp s).sel = s.sel ∧ (raiseMarker src stamp s).synth = s.synth := by
  rw [raiseMarker_eq]
  refine foldl_keeps (fun u => u.sel = s.sel ∧ u.synth = s.synth) _ (List.finRange 8) s ⟨rfl, rfl⟩ ?_
  rintro u c ⟨sel, synth⟩
  unfold markCandidate
  split
  · rw [(takeMarker_reports c stamp u).1]
    exact ⟨sel, synth⟩
  · exact ⟨sel, synth⟩

theorem raiseMarker_shape : raiseMarker src stamp s = { s with
    cands := (raiseMarker src stamp s).cands
    linkA := (raiseMarker src stamp s).linkA, linkB := (raiseMarker src stamp s).linkB } := by
  obtain ⟨sel, synth⟩ := raiseMarker_reference src stamp s
  have shape := (raiseMarker_grades src stamp s).1
  rw [sel, synth] at shape
  exact shape

/-- A candidate's marker in a state in which a marker hits no INACTIVE monitor (R84). -/
theorem markCandidate_quiet {u : State} (c : Cand) (quiet : Quiet src s u) : Quiet src s (markCandidate src stamp c u) := by
  by_cases hit : Hits src u c
  · rw [markCandidate_hit src stamp hit, takeMarker_silent stamp (quiet.active c hit)]
    refine ⟨fun d reached => ?_, quiet.linkA, quiet.linkB⟩
    by_cases same : d = c
    · subst same
      rw [setCand_same, marked_state (quiet.active d hit)]
      exact quiet.active d hit
    · rw [setCand_other _ _ _ _ same]
      exact quiet.active d reached
  · rw [markCandidate_missed src stamp hit]
    exact quiet

/-- A marker that hits no INACTIVE monitor raises no event (R84). -/
theorem raiseMarker_silent (active : ∀ c, Hits src s c → (s.cands[c]).state ≠ .inactive) :
    (raiseMarker src stamp s).linkA = s.linkA ∧ (raiseMarker src stamp s).linkB = s.linkB := by
  have quiet : Quiet src s (raiseMarker src stamp s) := by
    rw [raiseMarker_eq]
    exact foldl_keeps (Quiet src s) _ _ s ⟨active, rfl, rfl⟩ fun u c h => markCandidate_quiet src stamp s c h
  exact ⟨quiet.linkA, quiet.linkB⟩

end marker

/-! ### O29: station edges -/

theorem exec_stationEdge {s : State} (takes : Takes s) (i : Station) :
    exec (.stationInputEdge i) s = .next (stationEdge i s) := taken_takes _ s takes

/-- Settles O29: the candidates hit, one by one, and an edge by the two levels of its input. -/
theorem markersAndStationEdges : Obligations.MarkersAndStationEdges := by
  unfold Obligations.MarkersAndStationEdges
  refine ⟨⟨fun src stamp s => ?_, fun c stamp s inactive => takeMarker_inactive stamp inactive⟩, fun i s takes => ?_⟩
  · have grades := raiseMarker_grades src stamp s
    exact ⟨fun c => raiseMarker_cand src stamp s c, grades.2.1, grades.2.2, raiseMarker_shape src stamp s,
      raiseMarker_silent src stamp s⟩
  · rw [exec_stationEdge takes]
    unfold stationEdge
    dsimp only
    refine ⟨fun up => ?_, fun low before => ?_⟩
    · rw [if_pos (by rw [Bool.or_eq_true]; exact up)]
    · rw [low, before]
      rfl

/-! ### O30: the end of a window -/

/-- The verdict by the two bounds of D (R75). -/
theorem verdict_eq (limit : Nat) (d : Int) (hits : Nat) :
    verdict limit d hits = if d ≤ limit ∧ -limit ≤ d ∧ hits < 4 then MonitorState.valid else .outOfRange := by
  unfold verdict
  have bounds : d.natAbs ≤ limit ↔ d ≤ limit ∧ -(limit : Int) ≤ d := by omega
  simp only [bounds, and_assoc]

theorem windowDeviation_eq {r : Runtime} {w m : Tick} (start : r.windowStart = some w) (last : r.latest = some m) :
    r.windowDeviation = ((m - w).toNat : Int) - 1572864 := by
  unfold Runtime.windowDeviation
  rw [start, last]
  rfl

/-- A window that is due ends: D, the verdict, and the next window (R75, R84). -/
theorem endWindow_due {c : Cand} {s : State} {w m : Tick} (active : (s.cands[c]).state.isActive = true)
    (full : 512 ≤ (s.cands[c]).intervals) (start : (s.cands[c]).windowStart = some w)
    (last : (s.cands[c]).latest = some m) :
    let r := s.cands[c]
    let d : Int := (m - w).toNat - 1572864
    let new := if d ≤ s.cfg.freqLimit ∧ -s.cfg.freqLimit ≤ d ∧ r.hits < 4 then MonitorState.valid else .outOfRange
    let R := { r with state := new, deviation := some d, lastHits := some r.hits, windowStart := some m
                      intervals := 0, hits := 0 }
    endWindow c s = if new = r.state then s.setCand c R
      else raise .monitor (.candidate c) (BitVec.ofNat 16 (256 * r.state.number + new.number)) (s.setCand c R) := by
  dsimp only
  unfold endWindow
  rw [if_pos ((windowEndDue_iff s c).mpr ⟨active, full⟩)]
  dsimp only
  rw [windowDeviation_eq start last, verdict_eq, last]
  rfl

/-! ### O30: the activity timer -/

theorem exec_activityTimerExpiry {s : State} (takes : Takes s) (c : Cand) :
    exec (.activityTimerExpiry c) s = .next (expireActivity c s) := taken_takes _ s takes

/-- Settles O30: both steps before their time, the window end by its verdict, the expiry as an activity loss. -/
theorem windowEndAndActivityExpiry : Obligations.WindowEndAndActivityExpiry := by
  unfold Obligations.WindowEndAndActivityExpiry
  refine ⟨fun c s running => ?_, fun c s takes => ?_⟩
  · dsimp only
    rw [exec_windowEnd running]
    refine ⟨fun early => ?_, fun w m active full start last => congrArg _ (endWindow_due active full start last)⟩
    have notDue : windowEndDue s c = false := Bool.eq_false_iff.mpr fun due => by
      obtain ⟨active, full⟩ := (windowEndDue_iff s c).mp due
      rcases early with inactive | short
      · exact absurd active (by rw [inactive]; nofun)
      · omega
    rw [endWindow_notDue c s notDue]
  · dsimp only
    rw [exec_activityTimerExpiry takes]
    unfold expireActivity
    refine ⟨fun early => ?_, fun b active started ran => ?_⟩
    · rcases early with inactive | running
      · rw [goInactive_inactive (by rw [inactive]; nofun), ite_self]
      · have notDue : activityDue s c = false := timerOver_false running
        rw [notDue]
        rfl
    · have due : activityDue s c = true := by
        unfold activityDue
        rw [started]
        exact timerOver_some ran
      rw [if_pos due, goInactive_active active]

/-! ### O32: the fields of a candidate -/

/-- |D| saturated at 65535 (R82). -/
theorem freqDev_eq (r : Runtime) : freqDev r = (match r.deviation with
    | none => none
    | some d => some (if d.natAbs ≤ 65535 then d.natAbs else 65535)) := by
  unfold freqDev
  cases r.deviation with
  | none => rfl
  | some d => exact congrArg some ((Nat.min_comm ..).trans Nat.min_def)

section fields
variable {s : State} {c : Cand}

/-- The fields that a trunk source gives (R92). -/
theorem fieldValue_trunk {n : Trunk} (source : (s.cfg.cands[c]).source = .trunk n) :
    fieldValue s c .ql = some (s.framers[n]).ql.val
      ∧ fieldValue s c .rdi = some (if (s.framers[n]).rdi then 1 else 0)
      ∧ fieldValue s c .sourceId = (s.framers[n]).sourceId.map BitVec.toNat
      ∧ fieldValue s c .slipRate = (s.stores[n]).slipRate
      ∧ fieldValue s c .slipExcess = some (if (s.stores[n]).slipExcess then 1 else 0)
      ∧ fieldValue s c .station = some 0 := by
  refine ⟨?_, ?_, ?_, ?_, ?_, ?_⟩ <;> simp only [fieldValue, candidateQl, weigh, source]

/-- The fields that a station source gives (R92). -/
theorem fieldValue_station {i : Station} (source : (s.cfg.cands[c]).source = .station i) :
    fieldValue s c .ql = some (s.cfg.cands[c]).assumedQl.val ∧ fieldValue s c .station = some 1
      ∧ ∀ x ∈ [RuleField.rdi, .sourceId, .slipRate, .slipExcess], fieldValue s c x = none := by
  refine ⟨?_, ?_, fun x mem => ?_⟩
  · simp only [fieldValue, candidateQl, source]
  · simp only [fieldValue, source]
  · simp only [List.mem_cons, List.not_mem_nil, or_false] at mem
    rcases mem with rfl | rfl | rfl | rfl <;> simp only [fieldValue, source]

end fields

/-- Settles O32: the fields of every candidate, then by its source. -/
theorem fieldsOfACandidate : Obligations.FieldsOfACandidate := by
  unfold Obligations.FieldsOfACandidate
  refine fun s c => ⟨freqDev_eq _, rfl, rfl, fun n source => ?_, fun i source => fieldValue_station source⟩
  obtain ⟨ql, rdi, sourceId, slipRate, slipExcess, station⟩ := fieldValue_trunk source
  refine ⟨ql, rdi, fun none => ?_, fun v some => ?_, slipRate, slipExcess, station⟩
  · rw [sourceId, none]
    rfl
  · rw [sourceId, some]
    rfl

end Sys2Proof.Machine
end

section
/-! OBLIGATIONS. The match of a rule (R93), the chains of the rule list and the class they give (R94, R95, R96), the class
evaluation, the grading of a candidate and what a change of class does (R87, R88, R90, R97, R98, R101, R120). -/

namespace Sys2Proof.Machine

/-! ### O33: the match of a rule -/

section ruleMatch
variable {r : Rule} {s : State} {c : Cand} {v : Word16}

theorem isMatch_absent (absent : fieldValue s c r.field = none) : r.isMatch s c = false := by
  unfold Rule.isMatch
  rw [absent]

theorem word16_ofNat_toNat (v : Word16) : BitVec.ofNat 16 v.toNat = v := by
  rw [BitVec.ofNat_toNat, BitVec.setWidth_eq]

theorem isMatch_present (present : fieldValue s c r.field = some v.toNat) : r.isMatch s c = r.compare v := by
  unfold Rule.isMatch
  rw [present]
  exact congrArg r.compare (word16_ofNat_toNat v)

theorem compare_eq_iff (op : r.op = .eq) : r.compare v = true ↔ v &&& r.mask = r.value &&& r.mask := by
  unfold Rule.compare
  rw [op]
  exact beq_iff_eq

theorem compare_ne_iff (op : r.op = .ne) : r.compare v = true ↔ v &&& r.mask ≠ r.value &&& r.mask := by
  unfold Rule.compare
  rw [op]
  exact bne_iff_ne

theorem compare_gt_iff (op : r.op = .gt) : r.compare v = true ↔ r.value.toNat < v.toNat := by
  unfold Rule.compare
  rw [op]
  exact decide_eq_true_iff.trans BitVec.lt_def

theorem compare_lt_iff (op : r.op = .lt) : r.compare v = true ↔ v.toNat < r.value.toNat := by
  unfold Rule.compare
  rw [op]
  exact decide_eq_true_iff.trans BitVec.lt_def

end ruleMatch

/-- Settles O33: an absent field matches nothing, a present one as its operator compares it. -/
theorem ruleMatchesItsField : Obligations.RuleMatchesItsField := by
  unfold Obligations.RuleMatchesItsField
  refine fun r s c => ⟨fun _ => rfl, isMatch_absent, fun v present => ?_⟩
  rw [isMatch_present present]
  exact ⟨compare_eq_iff, compare_ne_iff, compare_gt_iff, compare_lt_iff⟩

/-! ### O34: the division into chains -/

theorem chains_unjoined {r : Rule} (rs : List Rule) (h : r.join = false) : chains (r :: rs) = [r] :: chains rs := by
  rw [chains, h]
  rfl

theorem chains_joined_last {r : Rule} {rs : List Rule} (h : r.join = true) (alone : chains rs = []) :
    chains (r :: rs) = [[r]] := by
  rw [chains, if_pos h, alone]

theorem chains_joined {r : Rule} {rs x : List Rule} {xs : List (List Rule)} (h : r.join = true)
    (next : chains rs = x :: xs) : chains (r :: rs) = (r :: x) :: xs := by
  rw [chains, if_pos h, next]

/-- The chains, one after another, are the list (R94). -/
theorem flatten_chains (rules : List Rule) : (chains rules).flatten = rules := by
  induction rules with
  | nil => rfl
  | cons r rs ih =>
    cases join : r.join with
    | false => rw [chains_unjoined rs join, List.flatten_cons, ih, List.singleton_append]
    | true =>
      cases next : chains rs with
      | nil =>
        rw [next] at ih
        rw [chains_joined_last join next, ← ih]
        rfl
      | cons x xs =>
        rw [next] at ih
        rw [chains_joined join next, ← ih]
        rfl

/-- The last rule of a list, where there is one, is not joined. -/
def LastUnjoined (rules : List Rule) : Prop := ∀ r, rules.getLast? = some r → r.join = false

theorem LastUnjoined.tail {r : Rule} {rs : List Rule} (h : LastUnjoined (r :: rs)) : LastUnjoined rs := by
  intro q last
  refine h q ?_
  rw [List.getLast?_cons, last]
  rfl

/-- A chain's rules but its last are joined, and its last is not where the list it comes from ends so (R94). -/
def FormsChain (closed : Prop) (x : List Rule) : Prop :=
  ∃ inner last, x = inner ++ [last] ∧ (∀ r ∈ inner, r.join = true) ∧ (closed → last.join = false)

theorem FormsChain.single {closed : Prop} {r : Rule} (h : closed → r.join = false) : FormsChain closed [r] :=
  ⟨[], r, rfl, nofun, h⟩

theorem FormsChain.cons {closed : Prop} {r : Rule} {x : List Rule} (join : r.join = true) (h : FormsChain closed x) :
    FormsChain closed (r :: x) := by
  obtain ⟨inner, last, rfl, joined, ends⟩ := h
  exact ⟨r :: inner, last, rfl, List.forall_mem_cons.mpr ⟨join, joined⟩, ends⟩

theorem FormsChain.mono {closed closed' : Prop} {x : List Rule} (h : FormsChain closed x) (weaker : closed' → closed) :
    FormsChain closed' x := by
  obtain ⟨inner, last, split, joined, ends⟩ := h
  exact ⟨inner, last, split, joined, fun h => ends (weaker h)⟩

theorem chains_formChains (rules : List Rule) : ∀ x ∈ chains rules, FormsChain (LastUnjoined rules) x := by
  induction rules with
  | nil => exact nofun
  | cons r rs ih =>
    have rest : ∀ x ∈ chains rs, FormsChain (LastUnjoined (r :: rs)) x := fun x hx =>
      (ih x hx).mono LastUnjoined.tail
    cases join : r.join with
    | false =>
      rw [chains_unjoined rs join]
      exact List.forall_mem_cons.mpr ⟨.single fun _ => join, rest⟩
    | true =>
      cases next : chains rs with
      | nil =>
        have alone : rs = [] := by rw [← flatten_chains rs, next]; rfl
        rw [chains_joined_last join next, alone]
        exact List.forall_mem_singleton.mpr (.single fun closed => closed r rfl)
      | cons x xs =>
        rw [next] at rest
        obtain ⟨first, others⟩ := List.forall_mem_cons.mp rest
        rw [chains_joined join next]
        exact List.forall_mem_cons.mpr ⟨first.cons join, others⟩

/-! ### O34: the class of the deciding chain -/

section ruleList
variable {s : State} {c : Cand}

/-- A chain that matches in the words of the claims: its first rule enabled and matching, its other enabled rules matching
(R94, R95). -/
def Fits (s : State) (c : Cand) (x : List Rule) : Prop :=
  ∃ r rs, x = r :: rs ∧ r.enabled = true ∧ r.isMatch s c = true ∧ ∀ q ∈ rs, q.enabled = true → q.isMatch s c = true

theorem chainMatches_iff (x : List Rule) : chainMatches s c x = true ↔ Fits s c x := by
  cases x with
  | nil => exact ⟨nofun, fun ⟨_, _, h, _⟩ => nomatch h⟩
  | cons r rs =>
    have others : ∀ q : Rule, (!q.enabled || q.isMatch s c) = true ↔ (q.enabled = true → q.isMatch s c = true) := by
      intro q
      cases q.enabled <;> simp
    simp only [chainMatches, Fits, Bool.and_eq_true, List.all_eq_true, others, List.cons.injEq, and_assoc]
    constructor
    · exact fun h => ⟨r, rs, rfl, rfl, h⟩
    · rintro ⟨_, _, rfl, rfl, h⟩
      exact h

/-- The first chain that matches decides by its first rule (R95). -/
theorem ruleClass_decided {before after : List (List Rule)} {r : Rule} {rs : List Rule}
    (list : chains s.cfg.rules.toList = before ++ (r :: rs) :: after) (earlier : ∀ x ∈ before, ¬ Fits s c x)
    (fits : Fits s c (r :: rs)) : ruleClass s c = r.classOf s c := by
  have first : (chains s.cfg.rules.toList).find? (chainMatches s c) = some (r :: rs) := by
    refine List.find?_eq_some_iff_append.mpr ⟨(chainMatches_iff _).mpr fits, before, after, list, fun x hx => ?_⟩
    rw [Bool.not_eq_true', Bool.eq_false_iff, ne_eq, chainMatches_iff]
    exact earlier x hx
  unfold ruleClass
  rw [first]

theorem ruleClass_default (unfit : ∀ x ∈ chains s.cfg.rules.toList, ¬ Fits s c x) :
    ruleClass s c = s.cfg.selector.defaultClass := by
  have unmatched : (chains s.cfg.rules.toList).find? (chainMatches s c) = none :=
    List.find?_eq_none.mpr fun x hx => mt (chainMatches_iff x).mp (unfit x hx)
  unfold ruleClass
  rw [unmatched]

theorem classOf_cls {r : Rule} {k : Fin 8} (action : r.action = .cls k) : r.classOf s c = k := by
  unfold Rule.classOf
  rw [action]

theorem mapClass_val (v : Word16) : (mapClass v).val = if v.toNat < 8 then v.toNat else 7 := by
  unfold mapClass
  rw [Fin.val_ofNat]
  split <;> omega

theorem classOf_map {r : Rule} {v : Word16} (action : r.action = .map)
    (present : fieldValue s c r.field = some v.toNat) : r.classOf s c = mapClass (v &&& r.mask) := by
  unfold Rule.classOf
  rw [action, present]
  exact congrArg (fun w => mapClass (w &&& r.mask)) (word16_ofNat_toNat v)

end ruleList

/-- Settles O34: the division by induction on the list, then the class of the deciding chain by its action. -/
theorem chainsAndTheClassTheyGive : Obligations.ChainsAndTheClassTheyGive := by
  unfold Obligations.ChainsAndTheClassTheyGive
  refine ⟨fun rules => ⟨flatten_chains rules, chains_formChains rules⟩, fun s c => ⟨?_, ruleClass_default⟩⟩
  intro before r rs after list earlier fits
  rw [ruleClass_decided list earlier fits]
  refine ⟨fun k => classOf_cls, fun v action present => ?_⟩
  rw [classOf_map action present, mapClass_val]

/-! ### O31: a change of class -/

section changeOfClass
variable {c : Cand} {k : Fin 8} {s : State}

theorem setClass_same (same : (s.cands[c]).cls = k) : setClass c k s = s := if_pos same.symm

/-- What the selector does with a class that changes: the first rise, a later rise, a fall to 0, or nothing (R98). -/
theorem classChanged_eq {r : Runtime} (changed : r.cls ≠ k) (w : Wait) :
    { r with cls := k }.classChanged r.cls k w
      = if r.cls = 0 ∧ r.hasQualified = false then { r with cls := k, hasQualified := true }
        else if r.cls = 0 then { r with cls := k, wait := some w }
        else if k = 0 then { r with cls := k, wait := none }
        else { r with cls := k } := by
  unfold Runtime.classChanged
  by_cases rise : r.cls = 0
  · have new : k ≠ 0 := fun h => changed (rise.trans h.symm)
    cases r.hasQualified <;> simp [rise, new]
  · simp [rise]

/-- A change of class raises CLASS and is handed to the selector (R97, R98, R120). -/
theorem setClass_changed (changed : (s.cands[c]).cls ≠ k) :
    setClass c k s = raise .cls (.candidate c) (detailOf (s.cands[c]).cls.val k.val)
      (s.setCand c ({ s.cands[c] with cls := k }.classChanged (s.cands[c]).cls k (newWait s))) := if_neg changed.symm

end changeOfClass

/-! ### O31: the grading of a candidate -/

section grading
variable {c : Cand} {s : State} {v : Word16}

/-- The loop guard holds the source identifier v of the trunk that candidate c is on (R90). -/
def Guarded (s : State) (c : Cand) (v : Word16) : Prop :=
  ∃ n : Trunk, (s.cfg.cands[c]).source = .trunk n ∧ (s.framers[n]).sourceId = some v
    ∧ ∃ k : Fin 4, s.cfg.loopGuard[k] = some v

theorem mem_loopGuard_iff (guard : Vector (Option Word16) 4) (v : Word16) :
    guard.toList.contains (some v) = true ↔ ∃ k : Fin 4, guard[k] = some v := by
  rw [List.contains_iff_mem, Vector.mem_toList_iff, Vector.mem_iff_getElem]
  exact ⟨fun ⟨i, h, e⟩ => ⟨⟨i, h⟩, e⟩, fun ⟨k, e⟩ => ⟨k, k.isLt, e⟩⟩

theorem loopMatch_eq_some_iff : loopMatch s c = some v ↔ Guarded s c v := by
  unfold loopMatch Guarded
  cases source : (s.cfg.cands[c]).source with
  | none | station => exact ⟨nofun, fun ⟨_, h, _⟩ => nomatch h⟩
  | trunk n =>
    simp only [Source.trunk.injEq, exists_eq_left']
    cases id : (s.framers[n]).sourceId with
    | none => exact ⟨nofun, fun ⟨h, _⟩ => nomatch h⟩
    | some w =>
      simp only [mem_loopGuard_iff]
      split
      · next held => exact ⟨by rintro ⟨⟩; exact ⟨rfl, held⟩, fun h => h.1⟩
      · next free => exact ⟨nofun, by rintro ⟨⟨⟩, held⟩; exact absurd held free⟩

theorem loopMatch_eq_none_iff : loopMatch s c = none ↔ ∀ v, ¬ Guarded s c v := by
  simp only [Option.eq_none_iff_forall_ne_some, ne_eq, loopMatch_eq_some_iff]

/-- The monitor gate (R88). -/
theorem grade_invalid (gate : (s.cands[c]).state ≠ .valid) : grade c s = setClass c 0 (setLoop c false s) := by
  unfold grade
  rw [if_pos (bne_iff_ne.mpr gate)]

/-- A VALID candidate that the loop guard holds (R90). -/
theorem grade_guarded (valid : (s.cands[c]).state = .valid) (held : loopMatch s c = some v) :
    grade c s = setClass c 0
      (if (s.cands[c]).loop then setLoop c true s else raise .loop (.candidate c) v (setLoop c true s)) := by
  unfold grade
  rw [valid, if_neg (by decide), held]

/-- A VALID candidate that the loop guard does not hold gets the class of the rule list (R95). -/
theorem grade_ruled (valid : (s.cands[c]).state = .valid) (free : loopMatch s c = none) :
    grade c s = setClass c (ruleClass s c) (setLoop c false s) := by
  unfold grade
  rw [valid, if_neg (by decide), free]

theorem gradeCandidate_disabled (h : (s.cfg.cands[c]).enabled = false) : gradeCandidate c s = s := by
  unfold gradeCandidate
  rw [h]
  rfl

theorem gradeCandidate_enabled (h : (s.cfg.cands[c]).enabled = true) :
    gradeCandidate c s = grade c (Claim.lossTold c s) := by
  unfold gradeCandidate
  rw [if_pos h, tellLoss_eq]

theorem lossTold_state (c : Cand) (s : State) : ((Claim.lossTold c s).cands[c]).state = (s.cands[c]).state := by
  rw [lossTold_cand]

theorem lossTold_loop (c : Cand) (s : State) : ((Claim.lossTold c s).cands[c]).loop = (s.cands[c]).loop := by
  rw [lossTold_cand]

/-- The CLASS event of an earlier loss does not touch what the loop guard reads. -/
theorem lossTold_loopMatch (c : Cand) (s : State) : loopMatch (Claim.lossTold c s) c = loopMatch s c := by
  have told := lossTold_grades c s
  unfold loopMatch
  rw [told.cfg, told.framers]

end grading

theorem forCands_eq (f : Cand → State → State) (s : State) :
    forCands f s = f 7 (f 6 (f 5 (f 4 (f 3 (f 2 (f 1 (f 0 s))))))) := rfl

/-- Settles O31: the order of the evaluation, the three steps of a grading after the told loss, and the change of class. -/
theorem gradingAndClassChange : Obligations.GradingAndClassChange := by
  unfold Obligations.GradingAndClassChange
  refine ⟨fun s => congrArg (evaluate .classes none) (forCands_eq gradeCandidate s), fun c s => ?_, fun c k s => ?_⟩
  · refine ⟨gradeCandidate_disabled, fun enabled => ?_⟩
    rw [gradeCandidate_enabled enabled, ← lossTold_state]
    refine ⟨grade_invalid, fun valid => ⟨fun v held => ?_, fun free => ?_⟩⟩
    · rw [← lossTold_loop]
      exact grade_guarded valid ((lossTold_loopMatch c s).trans (loopMatch_eq_some_iff.mpr held))
    · exact grade_ruled valid ((lossTold_loopMatch c s).trans (loopMatch_eq_none_iff.mpr free))
  · refine ⟨setClass_same, fun changed => ?_⟩
    rw [setClass_changed changed, classChanged_eq changed]
    rfl

end Sys2Proof.Machine
end

section
/-! OBLIGATIONS. The count-down of the waits and WAIT_END (R121), and the automatic choice of a candidate (R104, R105). -/

namespace Sys2Proof.Machine

/-! ### O35: the count-down of the waits -/

section waits
variable (e : Epoch) (s : State)

/-- A definite wait that this start has not counted loses one, and ends where nothing is left of it (R121). -/
theorem counted_definite (n : Nat) (last : Epoch) : Wait.counted e (.definite n last)
    = if last = e then some (.definite n last) else if 1 < n then some (.definite (n - 1) e) else none := by
  unfold Wait.counted
  by_cases ends : n ≤ 1
  · rw [if_neg (Nat.not_lt.mpr ends)]
    exact if_congr Iff.rfl rfl (if_pos ends)
  · rw [if_pos (Nat.lt_of_not_le ends)]
    exact if_congr Iff.rfl rfl (if_neg ends)

theorem countWait_same (c : Cand) :
    (countWait e c s).cands[c] = { s.cands[c] with wait := (s.cands[c]).wait.bind (Wait.counted e) } := setCand_same ..

theorem countWait_other {c d : Cand} (other : d ≠ c) : (countWait e d s).cands[c] = s.cands[c] :=
  setCand_other _ _ _ _ other.symm

/-- A count-down acts on the candidates alone. -/
theorem countWaitsAt_shape : countWaitsAt e s = { s with cands := (countWaitsAt e s).cands } := by
  unfold countWaitsAt forCands
  refine foldl_keeps (fun t => t = { s with cands := t.cands }) _ (List.finRange 8) s rfl fun t c h => ?_
  unfold countWait State.setCand
  rw [h]

/-- A count-down takes every wait once. -/
theorem countWaitsAt_cand (c : Cand) :
    (countWaitsAt e s).cands[c] = { s.cands[c] with wait := (s.cands[c]).wait.bind (Wait.counted e) } := by
  obtain ⟨u, before, later⟩ := foldl_at (fun s t : State => t.cands[c] = s.cands[c]) (fun _ => rfl)
    (fun h g => g.trans h) (fun u d => countWait e d u) c (List.finRange 8) (List.nodup_finRange 8) (List.mem_finRange c)
    (fun d _ other u => countWait_other e u other) s
  unfold countWaitsAt forCands
  rw [later, countWait_same, before]

end waits

theorem exec_waitEnd {s : State} (takes : Takes s) (c : Cand) : exec (.waitEnd c) s = .next (endWait c s) :=
  taken_takes _ s takes

theorem endWait_notDue {c : Cand} {s : State} (notDue : waitEndDue s c = false) : endWait c s = s :=
  if_neg (by rw [notDue]; nofun)

/-- WAIT_END where a wait is to end is the count-down of that multiframe start (R121; assumption 16). -/
theorem endWait_due {c : Cand} {s : State} {e : Epoch} (starts : s.multiframeAt = some e) (due : waitEndDue s c = true) :
    endWait c s = countWaitsAt e s := by
  unfold endWait
  rw [if_pos due, starts]
  rfl

/-- Settles O35: one wait at a time, then the two cases of WAIT_END. -/
theorem waitsCountDownAndEnd : Obligations.WaitsCountDownAndEnd := by
  unfold Obligations.WaitsCountDownAndEnd
  refine ⟨fun e s => ⟨countWaitsAt_shape e s, fun c => ?_⟩, fun c s takes => ⟨fun notDue => ?_, ?_⟩⟩
  · rw [countWaitsAt_cand]
    refine congrArg (fun w => { s.cands[c] with wait := w }) ?_
    cases (s.cands[c]).wait with
    | none => rfl
    | some w =>
      cases w with
      | definite n last => exact counted_definite e n last
      | indefinite => rfl
  · rw [exec_waitEnd takes, endWait_notDue notDue]
  · intro n last e starts waits ends fresh
    rw [exec_waitEnd takes, endWait_due starts ((waitEndDue_iff s c).mpr ⟨e, n, last, starts, waits, ends, fresh⟩)]

/-! ### O36: the order of the candidates -/

section order
variable {s : State} {b c d : Cand}

theorem better_iff : better s c d = true ↔
    (rankKey s c).1 < (rankKey s d).1 ∨ (rankKey s c).1 = (rankKey s d).1
      ∧ ((rankKey s c).2.1 < (rankKey s d).2.1 ∨ (rankKey s c).2.1 = (rankKey s d).2.1 ∧ c.val < d.val) :=
  decide_eq_true_iff

theorem better_trans (h : better s b c = true) (g : better s c d = true) : better s b d = true := by
  rw [better_iff] at *
  omega

theorem better_asymm (h : better s c d = true) : ¬ better s d c = true := by
  rw [better_iff] at *
  omega

/-- Two candidates differ at least in their numbers. -/
theorem better_total (other : c ≠ d) (h : ¬ better s c d = true) : better s d c = true := by
  have numbers : c.val ≠ d.val := Fin.val_ne_of_ne other
  rw [better_iff] at *
  omega

end order

/-! ### O36: the first eligible candidate -/

section first
variable {s : State}

/-- One candidate taken into the search for the first eligible one. -/
def prefer (s : State) (best : Option Cand) (c : Cand) : Option Cand :=
  if eligible s c then
    match best with
    | none => some c
    | some b => if better s c b then some c else some b
  else best

theorem firstEligible_eq (s : State) : firstEligible s = (List.finRange 8).foldl (prefer s) none := rfl

/-- `best` is the first eligible one of some candidates, or none where none of them is eligible. -/
def Leads (s : State) (cs : List Cand) (best : Option Cand) : Prop :=
  (∀ b, best = some b → eligible s b = true ∧ ∀ d ∈ cs, eligible s d = true → d ≠ b → better s b d = true)
    ∧ (best = none → ∀ d ∈ cs, ¬ eligible s d = true)

/-- A candidate that is not eligible changes nothing of the search. -/
theorem Leads.unfit {cs : List Cand} {best : Option Cand} {c : Cand} (h : Leads s cs best)
    (unfit : ¬ eligible s c = true) : Leads s (c :: cs) best := by
  obtain ⟨leader, none⟩ := h
  refine ⟨fun b hb => ⟨(leader b hb).1, fun d hd able => ?_⟩, fun hb d hd able => ?_⟩
  all_goals obtain rfl | hd := List.mem_cons.mp hd
  · exact absurd able unfit
  · exact (leader b hb).2 d hd able
  · exact unfit able
  · exact none hb d hd able

theorem Leads.first {cs : List Cand} {c : Cand} (h : Leads s cs none) (able : eligible s c = true) :
    Leads s (c :: cs) (some c) := by
  refine ⟨?_, nofun⟩
  rintro b ⟨⟩
  refine ⟨able, fun d hd fit other => ?_⟩
  obtain rfl | hd := List.mem_cons.mp hd
  · exact absurd rfl other
  · exact absurd fit (h.2 rfl d hd)

/-- A candidate before the leader is before all that the leader is before. -/
theorem Leads.overtaken {cs : List Cand} {b c : Cand} (h : Leads s cs (some b)) (able : eligible s c = true)
    (ahead : better s c b = true) : Leads s (c :: cs) (some c) := by
  refine ⟨?_, nofun⟩
  rintro b' ⟨⟩
  refine ⟨able, fun d hd fit other => ?_⟩
  obtain rfl | hd := List.mem_cons.mp hd
  · exact absurd rfl other
  · by_cases same : d = b
    · exact same ▸ ahead
    · exact better_trans ahead ((h.1 b rfl).2 d hd fit same)

theorem Leads.ahead {cs : List Cand} {b c : Cand} (h : Leads s cs (some b)) (behind : ¬ better s c b = true) :
    Leads s (c :: cs) (some b) := by
  obtain ⟨able, ahead⟩ := h.1 b rfl
  refine ⟨?_, nofun⟩
  rintro b' ⟨⟩
  refine ⟨able, fun d hd fit other => ?_⟩
  obtain rfl | hd := List.mem_cons.mp hd
  · exact better_total other behind
  · exact ahead d hd fit other

theorem Leads.prefer {cs : List Cand} {best : Option Cand} (h : Leads s cs best) (c : Cand) :
    Leads s (c :: cs) (prefer s best c) := by
  unfold Machine.prefer
  split
  · next able =>
    split
    · exact h.first able
    · split
      · next ahead => exact h.overtaken able ahead
      · next behind => exact h.ahead behind
  · next unfit => exact h.unfit unfit

theorem foldl_prefer_leads (cs seen : List Cand) (best : Option Cand) (h : Leads s seen best) :
    Leads s (cs.reverse ++ seen) (cs.foldl (prefer s) best) := by
  induction cs generalizing seen best with
  | nil => exact h
  | cons c cs ih =>
    rw [List.reverse_cons, List.append_assoc]
    exact ih (c :: seen) (prefer s best c) (h.prefer c)

/-- The search of all candidates. -/
theorem firstEligible_leads (s : State) : Leads s (List.finRange 8).reverse (firstEligible s) := by
  have start : Leads s [] none := ⟨nofun, nofun⟩
  have searched := foldl_prefer_leads (List.finRange 8) [] none start
  rw [List.append_nil, ← firstEligible_eq] at searched
  exact searched

theorem mem_searched (c : Cand) : c ∈ (List.finRange 8).reverse := List.mem_reverse.mpr (List.mem_finRange c)

theorem firstEligible_none_iff : firstEligible s = none ↔ ∀ c, ¬ eligible s c = true :=
  ⟨fun h c => (firstEligible_leads s).2 h c (mem_searched c), fun unfit =>
    Option.eq_none_iff_forall_ne_some.mpr fun c h => unfit c (firstEligible_eligible h)⟩

/-- The first eligible candidate is the only one before all others (R105). -/
theorem firstEligible_some_iff {c : Cand} : firstEligible s = some c ↔
    eligible s c = true ∧ ∀ d, eligible s d = true → d ≠ c → better s c d = true := by
  constructor
  · intro h
    obtain ⟨able, ahead⟩ := (firstEligible_leads s).1 c h
    exact ⟨able, fun d => ahead d (mem_searched d)⟩
  · rintro ⟨able, ahead⟩
    cases h : firstEligible s with
    | none => exact absurd able (firstEligible_none_iff.mp h c)
    | some b =>
      obtain ⟨fit, leads⟩ := (firstEligible_leads s).1 b h
      by_contra other
      have differ : c ≠ b := fun same => other (congrArg some same.symm)
      exact better_asymm (leads c (mem_searched c) able differ) (ahead b fit differ.symm)

end first

/-! ### O36: the automatic choice -/

section choice
variable {s : State}

theorem automaticChoice_revertive (revertive : s.cfg.selector.revertive = true) :
    automaticChoice s = firstEligible s := if_pos revertive

theorem automaticChoice_stays (keeping : s.cfg.selector.revertive = false) {c : Cand}
    (selected : s.sel.selection = some c) (able : eligible s c = true) : automaticChoice s = some c := by
  unfold automaticChoice
  rw [keeping, selected]
  exact if_pos able

theorem automaticChoice_leaves (keeping : s.cfg.selector.revertive = false)
    (unfit : ∀ c, s.sel.selection = some c → ¬ eligible s c = true) : automaticChoice s = firstEligible s := by
  unfold automaticChoice
  rw [keeping]
  split
  · rfl
  · split
    · next c selected => exact if_neg (unfit c selected)
    · rfl

end choice

/-- Settles O36 (its name is taken by the model's function): eligibility and the order as the model's tests, then the first
eligible candidate and the choice. -/
theorem Selection.automaticChoice : Obligations.AutomaticChoice := by
  unfold Obligations.AutomaticChoice
  intro s fit cls pri first
  have able : ∀ c, eligible s c = true ↔ fit c := eligible_iff s
  have ahead : ∀ c d, better s c d = true ↔ first c d := fun _ _ => better_iff
  refine ⟨able, ?_⟩
  simp only [← able, ← ahead]
  exact ⟨fun _ => firstEligible_some_iff, firstEligible_none_iff, automaticChoice_revertive,
    fun keeping => ⟨fun _ => automaticChoice_stays keeping, automaticChoice_leaves keeping⟩⟩

end Sys2Proof.Machine
end

section
/-! OBLIGATIONS. An evaluation of the selection (R106, R108, R109, R117, R118, R125) and ACQUIRE_TIMEOUT (R123, R140,
R147). -/

namespace Sys2Proof.Machine

/-! ### O37: the first step of an evaluation -/

section choosing
variable {s : State}

theorem choosing_kept (kept : ∀ m, s.sel.manual = some m → eligible s m.target = true) : choosing s = s :=
  dropManualIf_missed fun m manual => congrArg Bool.not (kept m manual)

/-- A MANUAL request on a candidate not eligible is dropped (R106, R125). -/
theorem choosing_dropped {m : Manual} (manual : s.sel.manual = some m) (unfit : eligible s m.target = false) :
    choosing s = raise .requestDropped (.candidate m.target) 0x0203 (s.setSel { s.sel with manual := none }) :=
  dropManualIf_hit manual (congrArg Bool.not unfit)

theorem choosing_cands (s : State) : (choosing s).cands = s.cands := (dropManualIf_steers ..).cands

theorem choosing_selection (s : State) : (choosing s).sel.selection = s.sel.selection := by
  unfold choosing dropManualIf
  split <;> rfl

/-- The MANUAL request falls at the first step of an evaluation (R106). -/
def Drops (s : State) : Prop := ∃ m, s.sel.manual = some m ∧ eligible s m.target = false

theorem choosing_of_not_drops (stands : ¬ Drops s) : choosing s = s :=
  choosing_kept fun m manual => Bool.eq_true_of_not_eq_false fun unfit => stands ⟨m, manual, unfit⟩

/-- The test by which an evaluation tells that a MANUAL request has fallen. -/
def manualFell (s : State) : Bool := s.sel.manual.isSome && (choosing s).sel.manual.isNone

theorem manualFell_of_drops (drops : Drops s) : manualFell s = true := by
  obtain ⟨m, manual, unfit⟩ := drops
  unfold manualFell
  rw [choosing_dropped manual unfit, manual]
  rfl

theorem manualFell_of_not_drops (stands : ¬ Drops s) : manualFell s = false := by
  unfold manualFell
  rw [choosing_of_not_drops stands]
  cases s.sel.manual <;> rfl

/-- The reason an evaluation gives (R109). -/
def evaluationReason (why : EvalCause) (s : State) : Nat :=
  selectionReason why (manualFell s) s.sel.selection (choosing s)

theorem evaluate_eq (why : EvalCause) (ret : Option Cand) (s : State) :
    evaluate why ret s = select (evaluationReason why s) why.subject (chooseSelection ret (choosing s)) (choosing s) := by
  unfold evaluationReason
  rw [← choosing_selection s]
  rfl

end choosing

/-! ### O37: the selection by the level that stands -/

section choice
variable {s : State} {ret : Option Cand}

theorem chooseSelection_forced {f : Forced} (forced : s.sel.forced = some f) :
    chooseSelection ret s = forcedChoice s f := by
  unfold chooseSelection
  rw [forced]

theorem forcedChoice_candidate {f : Forced} {c : Cand} (target : f.target = some c) :
    forcedChoice s f = if (s.cands[c]).state.isActive then some c else none := by
  unfold forcedChoice
  rw [target]

theorem forcedChoice_holdover {f : Forced} (target : f.target = none) : forcedChoice s f = none := by
  unfold forcedChoice
  rw [target]

theorem chooseSelection_manual {m : Manual} (forced : s.sel.forced = none) (manual : s.sel.manual = some m) :
    chooseSelection ret s = some m.target := by
  unfold chooseSelection
  rw [forced, manual]

theorem chooseSelection_return {c : Cand} (forced : s.sel.forced = none) (manual : s.sel.manual = none)
    (back : ret = some c) (able : eligible s c = true) : chooseSelection ret s = some c := by
  unfold chooseSelection
  rw [forced, manual, back]
  exact if_pos able

theorem chooseSelection_automatic (forced : s.sel.forced = none) (manual : s.sel.manual = none)
    (unfit : ∀ c, ret = some c → eligible s c = false) : chooseSelection ret s = automaticChoice s := by
  unfold chooseSelection
  rw [forced, manual]
  cases ret with
  | none => rfl
  | some c => exact if_neg (by rw [unfit c rfl]; nofun)

end choice

/-! ### O37: the change of the selection -/

section change
variable {s : State} {reason : Nat} {subject : Subject} {new : Option Cand}

theorem select_same (same : new = s.sel.selection) : select reason subject new s = s := if_pos same

theorem select_changed (changed : new ≠ s.sel.selection) : select reason subject new s
    = followSelection
        (raise .selection subject
          (BitVec.ofNat 16 (256 * reason + 16 * selectionNumber s.sel.selection + selectionNumber new))
          (s.setSel { s.sel with selection := new })) := if_neg changed

end change

/-! ### O37: the reason of a class evaluation -/

section reason
variable {s : State}

theorem evaluationReason_first (selected : s.sel.selection = none) : evaluationReason .classes s = 8 := by
  unfold evaluationReason selectionReason
  rw [selected]

theorem evaluationReason_dropped (selected : s.sel.selection ≠ none) (drops : Drops s) :
    evaluationReason .classes s = 6 := by
  obtain ⟨c, selected⟩ := Option.ne_none_iff_exists'.mp selected
  unfold evaluationReason selectionReason
  rw [selected, manualFell_of_drops drops]
  rfl

theorem evaluationReason_stands {c : Cand} (selected : s.sel.selection = some c) (stands : ¬ Drops s) :
    evaluationReason .classes s = if stillAllowed s c then 1 else 2 := by
  unfold evaluationReason selectionReason
  rw [selected, manualFell_of_not_drops stands, choosing_of_not_drops stands]
  rfl

theorem stillAllowed_unforced {c : Cand} (unforced : s.sel.forced = none) : stillAllowed s c = eligible s c := by
  unfold stillAllowed
  rw [unforced]

/-- A FORCED request allows the candidate it chooses and no other. -/
theorem stillAllowed_forced {c : Cand} {ret : Option Cand} (forced : s.sel.forced ≠ none)
    (left : chooseSelection ret s ≠ some c) : stillAllowed s c = false := by
  obtain ⟨f, forced⟩ := Option.ne_none_iff_exists'.mp forced
  rw [chooseSelection_forced forced] at left
  unfold stillAllowed
  rw [forced]
  exact beq_eq_false_iff_ne.mpr left

end reason

/-- Settles O37: the unit in use is the state in which the evaluation chooses. -/
theorem evaluationOfTheSelection : Obligations.EvaluationOfTheSelection := by
  unfold Obligations.EvaluationOfTheSelection
  intro why ret s dropped number who
  have numbers : ∀ x, selectionNumber x = number x := fun x => by cases x <;> rfl
  have subject : why.subject = who := by cases why <;> rfl
  refine ⟨choosing s, choosing_of_not_drops, fun m => choosing_dropped, chooseSelection ret (choosing s),
    ?_, ?_, ?_, ?_, ?_, ?_, ?_⟩
  · intro f c forced target
    rw [chooseSelection_forced forced, forcedChoice_candidate target, choosing_cands]
  · intro f forced target
    rw [chooseSelection_forced forced, forcedChoice_holdover target]
  · exact fun m => chooseSelection_manual
  · exact fun c => chooseSelection_return
  · exact chooseSelection_automatic
  · intro same
    rw [evaluate_eq, select_same (same.trans (choosing_selection s).symm)]
  · intro changed
    refine ⟨evaluationReason why s, ?_, ?_, ?_, ?_, ?_, ?_, ?_, ?_, ?_, ?_⟩
    · rw [evaluate_eq, select_changed (by rw [choosing_selection]; exact changed), subject, numbers, numbers,
        choosing_selection]
    · rintro rfl; rfl
    · rintro ⟨l, rfl⟩; rfl
    · rintro ⟨l, rfl⟩; rfl
    · rintro ⟨l, rfl⟩; rfl
    · rintro rfl; rfl
    · rintro rfl; exact evaluationReason_first
    · rintro rfl; exact evaluationReason_dropped
    · rintro c rfl selected stands unforced
      rw [evaluationReason_stands selected stands, stillAllowed_unforced unforced]
    · rintro rfl selected stands forced
      obtain ⟨c, selected⟩ := Option.ne_none_iff_exists'.mp selected
      rw [choosing_of_not_drops stands, selected] at changed
      rw [evaluationReason_stands selected stands, stillAllowed_forced forced changed]
      rfl

/-! ### O38: the selector's half of an acquire timeout -/

section timeout
variable {s : State} {c : Cand}

theorem forcedOn_isSome_iff : (forcedOn s (· == c)).isSome = true ↔ ∃ f, s.sel.forced = some f ∧ f.target = some c := by
  unfold forcedOn
  constructor
  · intro h
    split at h
    · next f forced =>
      split at h
      · next d target =>
        split at h
        · next same => exact ⟨f, forced, target.trans (congrArg some (beq_iff_eq.mp same))⟩
        · exact absurd h nofun
      · exact absurd h nofun
    · exact absurd h nofun
  · rintro ⟨f, forced, target⟩
    simp only [forced, target, BEq.rfl, if_true, Option.isSome_some]

/-- A timeout on the candidate that a FORCED request names is marked and no more (R123). -/
theorem takeTimeout_forced (named : ∃ f, s.sel.forced = some f ∧ f.target = some c) :
    takeTimeout c s = s.setCand c { s.cands[c] with lockFail := true } :=
  if_pos (forcedOn_isSome_iff.mpr named)

/-- Any other timeout begins a wait where the candidate has a class and none, and is followed by an evaluation (R123). -/
theorem takeTimeout_unforced (other : ¬ ∃ f, s.sel.forced = some f ∧ f.target = some c) :
    takeTimeout c s = evaluate .timeout none (s.setCand c { s.cands[c] with
      lockFail := true
      wait := if (s.cands[c]).cls ≠ 0 ∧ (s.cands[c]).wait = none then some (newWait s) else (s.cands[c]).wait }) := by
  refine (if_neg fun h => other (forcedOn_isSome_iff.mp h)).trans (congrArg (evaluate .timeout none) ?_)
  rw [setCand_same, setCand_setCand]
  by_cases waits : (s.cands[c]).cls ≠ 0 ∧ (s.cands[c]).wait = none
  · rw [if_pos waits, if_pos (by simpa using waits)]
    rfl
  · rw [if_neg waits, if_neg (by simpa using waits)]

theorem takeHandedTimeout_none (none : s.sel.timeouts = []) : takeHandedTimeout s = s := by
  unfold takeHandedTimeout
  rw [none]

theorem takeHandedTimeout_first {rest : List Cand} (first : s.sel.timeouts = c :: rest) :
    takeHandedTimeout s = takeTimeout c (s.setSel { s.sel with timeouts := rest }) := by
  unfold takeHandedTimeout
  rw [first]

/-! ### O38: the synthesizer's half -/

/-- The acquire timer stands at its end. -/
def TimerReached (s : State) : Prop := s.synth.state = .acquire ∧ 1024 ≤ s.synth.acquireTimer

theorem timeOutIfReached_not (h : ¬ TimerReached s) : timeOutIfReached s = s := by
  unfold timeOutIfReached
  split
  · next acquires _ => exact if_neg fun ended => h ⟨acquires, ended⟩
  · rfl

theorem timeOutIfReached_reached (h : TimerReached s) (selected : s.sel.selection = some c) :
    timeOutIfReached s = timeOut c s := by
  obtain ⟨acquires, ended⟩ := h
  unfold timeOutIfReached
  rw [acquires, selected]
  exact if_pos ended

/-- A timeout that the selector takes at once leaves the count and its event alone (R140, R147). -/
theorem timeOut_taken (none : s.sel.timeouts = []) :
    (timeOut c s).setSel { (timeOut c s).sel with timeouts := [] }
      = raise .acquireTimeout (.candidate c) (BitVec.ofNat 16 (min 65535 (s.synth.timeoutCount + 1)))
          (s.setSynth { s.synth with timeoutCount := min 65535 (s.synth.timeoutCount + 1), acquireTimer := 0 }) := by
  have sel : { s.sel with timeouts := [] } = s.sel := by rw [← none]
  unfold timeOut
  rw [bump_eq_min]
  change (raise .acquireTimeout _ _ (s.setSynth _)).setSel { s.sel with timeouts := [] } = _
  rw [sel]
  rfl

end timeout

theorem exec_acquireTimeout {s : State} (takes : Takes s) :
    exec .acquireTimeout s = .next (takeHandedTimeout (timeOutIfReached s)) := taken_takes _ s takes

/-- Settles O38: which halves are taken, and the selector's by whether a FORCED request names the candidate. -/
theorem acquireTimeout : Obligations.AcquireTimeout := by
  unfold Obligations.AcquireTimeout
  intro s takes taken reached
  have handed : ∀ c u, takeTimeout c u = taken c u := fun c u => by
    dsimp only [taken]
    split
    · next named => exact takeTimeout_forced named
    · next other => exact takeTimeout_unforced other
  refine ⟨fun early none => ?_, fun c rest early first => ?_, fun c ended selected none => ?_⟩
  all_goals rw [exec_acquireTimeout takes]
  · rw [timeOutIfReached_not early, takeHandedTimeout_none none]
  · rw [timeOutIfReached_not early, takeHandedTimeout_first first, handed]
  · have added : (timeOut c s).sel.timeouts = [c] := by
      change s.sel.timeouts ++ [c] = [c]
      rw [none, List.nil_append]
    rw [timeOutIfReached_reached ended selected, takeHandedTimeout_first added, timeOut_taken none, handed]

end Sys2Proof.Machine
end

section
/-! OBLIGATIONS. The SWITCH actions as a READY link takes them: LOCKOUT, UNLOCK, FORCE and FORCE HOLDOVER (R111 to R114, R116,
R125), MANUAL, CLEAR-WAIT and RELEASE (R111, R115 to R118, R122). -/

namespace Sys2Proof.Machine

/-! ### A SWITCH request and its answer -/

section switch
variable {l : LinkId} {tag action operand option : Octet} {check : Word16} {s : State}

/-- The answer to a SWITCH request carries the selection as it then stands (R111). -/
theorem answer_switched (q : Request) (kind : q.kind = 6) (status : Status) (t : State) :
    answer l q status [candidateOctet t.sel.selection] t = Claim.switched l q.tag status t := by
  rw [answer_eq, kind]
  unfold Claim.switched
  cases t.sel.selection <;> rfl

/-- A request that stands for an action answers the action's status and leaves the state after it. -/
theorem request_switch (ready : Ready s l) (right : check = checkFor 6 tag [action, operand, option]) {status : Status}
    {t : State} (acts : switchAction l action operand option s = (status, t)) :
    request l 6 tag [action, operand, option] check s = .next (Claim.switched l tag status t) := by
  refine (request_ready l 6 tag _ check s ready right).trans (congrArg _ ?_)
  change handleSwitch l _ action operand option s = _
  unfold handleSwitch
  rw [acts]
  exact answer_switched _ rfl status t

/-- An operand from 1 to 8 names its candidate, and any other is refused (R111). -/
theorem onCandidate_named {c : Cand} (named : operand.toNat = c.val + 1) (f : Cand → State → Status × State) :
    onCandidate operand f s = f c s := by
  unfold onCandidate
  rw [candidateOf_iff.mpr named]

theorem onCandidate_outside (outside : operand.toNat = 0 ∨ 8 < operand.toNat) (f : Cand → State → Status × State) :
    onCandidate operand f s = (.badValue, s) := by
  have none : candidateOf operand = none := Option.eq_none_iff_forall_ne_some.mpr fun c named => by
    have number := candidateOf_iff.mp named
    omega
  unfold onCandidate
  rw [none]
  rfl

end switch

/-! ### The requests on one candidate -/

section drop
variable (c : Cand) (s : State)

/-- The FORCED request on a candidate falls with its lockout (R112, R125). -/
theorem dropForcedIf_lockedOut [Decidable (∃ f, s.sel.forced = some f ∧ f.target = some c)] :
    dropForcedIf (· == c) .lockout s = if ∃ f, s.sel.forced = some f ∧ f.target = some c then
      raise .requestDropped (.candidate c) 0x0101 (s.setSel { s.sel with forced := none }) else s := by
  split
  · next named =>
    obtain ⟨f, forced, target⟩ := named
    exact dropForcedIf_hit forced target (beq_iff_eq.mpr rfl)
  · next other =>
    refine dropForcedIf_missed fun f d forced target => beq_eq_false_iff_ne.mpr ?_
    rintro rfl
    exact other ⟨f, forced, target⟩

/-- The MANUAL request on a candidate falls with its lockout (R112, R125). -/
theorem dropManualIf_lockedOut [Decidable (∃ m, s.sel.manual = some m ∧ m.target = c)] :
    dropManualIf (· == c) .lockout s = if ∃ m, s.sel.manual = some m ∧ m.target = c then
      raise .requestDropped (.candidate c) 0x0201 (s.setSel { s.sel with manual := none }) else s := by
  split
  · next named =>
    obtain ⟨m, manual, rfl⟩ := named
    exact dropManualIf_hit manual (beq_iff_eq.mpr rfl)
  · next other => exact dropManualIf_missed fun m manual => beq_eq_false_iff_ne.mpr fun same => other ⟨m, manual, same⟩

end drop

/-! ### What each action answers -/

section actions
variable {l : LinkId} {c : Cand} {s : State}

theorem unlockAction_free (free : s.sel.lockout[c] = false) : unlockAction l c s = (.notStanding, s) :=
  if_neg (by rw [free]; nofun)

theorem unlockAction_locked (locked : s.sel.lockout[c] = true) : unlockAction l c s
    = (.ok, evaluate (.request l) none (s.setSel { s.sel with lockout := s.sel.lockout.set c false })) := if_pos locked

theorem forceAction_disabled (off : (s.cfg.cands[c]).enabled = false) : forceAction l c s = (.notEnabled, s) :=
  if_pos (congrArg Bool.not off)

theorem forceAction_locked (on : (s.cfg.cands[c]).enabled = true) (locked : s.sel.lockout[c] = true) :
    forceAction l c s = (.lockedOut, s) := by
  unfold forceAction
  rw [on]
  exact if_pos locked

theorem forceAction_placed (on : (s.cfg.cands[c]).enabled = true) (free : ¬ s.sel.lockout[c] = true) :
    forceAction l c s = (.ok, placeForced l (some c) s) := by
  unfold forceAction
  rw [on]
  exact if_neg free

theorem manualAction_outranked (forced : s.sel.forced ≠ none) : manualAction l c s = (.outranked, s) :=
  if_pos (Option.isSome_iff_ne_none.mpr forced)

theorem manualAction_locked (unforced : s.sel.forced = none) (locked : s.sel.lockout[c] = true) :
    manualAction l c s = (.lockedOut, s) := by
  unfold manualAction
  rw [unforced]
  exact if_pos locked

theorem manualAction_unfit (unforced : s.sel.forced = none) (free : ¬ s.sel.lockout[c] = true)
    (unfit : eligible s c = false) : manualAction l c s = (.notEligible, s) := by
  unfold manualAction
  rw [unforced, unfit]
  exact if_neg free

theorem manualAction_placed (unforced : s.sel.forced = none) (free : ¬ s.sel.lockout[c] = true)
    (able : eligible s c = true) : manualAction l c s
      = (.ok, evaluate (.request l) none (s.setSel { s.sel with manual := some (manualRecord l c s) })) := by
  unfold manualAction
  rw [unforced, able]
  exact if_neg free

theorem clearWaitAction_none (none : (s.cands[c]).wait = none) : clearWaitAction l c s = (.notStanding, s) :=
  if_neg (by rw [none]; nofun)

theorem clearWaitAction_waiting (waits : ¬ (s.cands[c]).wait = none) : clearWaitAction l c s
    = (.ok, evaluate (.request l) none (s.setCand c { s.cands[c] with wait := none })) :=
  if_pos (Option.isSome_iff_ne_none.mpr waits)

theorem releaseForcedAction_none (back : Bool) (none : s.sel.forced = none) :
    releaseForcedAction l back s = (.notStanding, s) := by
  unfold releaseForcedAction
  rw [none]
  rfl

theorem releaseForcedAction_standing (back : Bool) {f : Forced} (standing : s.sel.forced = some f) :
    releaseForcedAction l back s
      = (.ok, evaluate (.release l) (if back then f.ret else none) (s.setSel { s.sel with forced := none })) := by
  unfold releaseForcedAction
  rw [standing]

theorem releaseManualAction_none (back : Bool) (none : s.sel.manual = none) :
    releaseManualAction l back s = (.notStanding, s) := by
  unfold releaseManualAction
  rw [none]
  rfl

theorem releaseManualAction_standing (back : Bool) {m : Manual} (standing : s.sel.manual = some m) :
    releaseManualAction l back s
      = (.ok, evaluate (.release l) (if back then m.ret else none) (s.setSel { s.sel with manual := none })) := by
  unfold releaseManualAction
  rw [standing]

/-- A release proposes its return candidate where its option is not 0 (R117, R118). -/
theorem returned_eq (option : Octet) (ret : Option Cand) :
    (if (option != 0) = true then ret else none) = if option = 0 then none else ret := by
  by_cases zero : option = 0 <;> simp [zero]

end actions

/-! ### O39 and O40 -/

/-- Settles O39: each action by its operand and its refusals. -/
theorem lockoutUnlockAndForce : Obligations.LockoutUnlockAndForce := by
  unfold Obligations.LockoutUnlockAndForce
  refine ⟨fun l tag operand option check s ready => ⟨fun right => ⟨fun outside => ?_, fun c named => ?_⟩,
    fun right => ⟨fun outside => ?_, fun c named => ⟨fun free => ?_, fun locked => ?_⟩⟩⟩, ?_⟩
  · exact request_switch ready right (onCandidate_outside outside _)
  · intro a b d
    have freed : dropForcedIf (· == c) .lockout a = b := dropForcedIf_lockedOut c a
    have manual : b.sel.manual = s.sel.manual := by rw [← freed, dropForcedIf_manual]; rfl
    have left : dropManualIf (· == c) .lockout (dropForcedIf (· == c) .lockout a) = d := by
      rw [freed, dropManualIf_lockedOut]
      simp only [manual]
      rfl
    rw [← left]
    exact request_switch ready right (onCandidate_named named _)
  · exact request_switch ready right (onCandidate_outside outside _)
  · exact request_switch ready right ((onCandidate_named named _).trans (unlockAction_free free))
  · exact request_switch ready right ((onCandidate_named named _).trans (unlockAction_locked locked))
  · intro l tag operand option check s ready ret placed
    refine ⟨fun right => ⟨fun outside => ?_, fun c named => ?_⟩, fun right => request_switch ready right rfl⟩
    · exact request_switch ready right (onCandidate_outside outside _)
    · have acts := onCandidate_named (s := s) named (forceAction l)
      split
      · next off => exact request_switch ready right (acts.trans (forceAction_disabled off))
      · next on =>
        have on := Bool.eq_true_of_not_eq_false on
        split
        · next locked => exact request_switch ready right (acts.trans (forceAction_locked on locked))
        · next free => exact request_switch ready right (acts.trans (forceAction_placed on free))

/-- Settles O40: each action by its operand and its refusals. -/
theorem manualClearWaitAndRelease : Obligations.ManualClearWaitAndRelease := by
  unfold Obligations.ManualClearWaitAndRelease
  constructor
  · intro l tag operand option check s ready ret
    refine ⟨fun right => ⟨fun outside => ?_, fun c named => ?_⟩, fun right => ⟨fun outside => ?_, fun c named => ?_⟩⟩
    · exact request_switch ready right (onCandidate_outside outside _)
    · have acts := onCandidate_named (s := s) named (manualAction l)
      split
      · next forced => exact request_switch ready right (acts.trans (manualAction_outranked forced))
      · next unforced =>
        have unforced := not_not.mp unforced
        split
        · next locked => exact request_switch ready right (acts.trans (manualAction_locked unforced locked))
        · next free =>
          split
          · next unfit => exact request_switch ready right (acts.trans (manualAction_unfit unforced free unfit))
          · next able =>
            have able := Bool.eq_true_of_not_eq_false able
            exact request_switch ready right (acts.trans (manualAction_placed unforced free able))
    · exact request_switch ready right (onCandidate_outside outside _)
    · have acts := onCandidate_named (s := s) named (clearWaitAction l)
      split
      · next none => exact request_switch ready right (acts.trans (clearWaitAction_none none))
      · next waits => exact request_switch ready right (acts.trans (clearWaitAction_waiting waits))
  · intro l tag option check s ready
    refine ⟨fun right => ⟨fun none => ?_, fun f standing => ?_⟩, fun right => ⟨fun none => ?_, fun m standing => ?_⟩⟩
    · exact request_switch ready right (releaseForcedAction_none _ none)
    · rw [← returned_eq]
      exact request_switch ready right (releaseForcedAction_standing _ standing)
    · exact request_switch ready right (releaseManualAction_none _ none)
    · rw [← returned_eq]
      exact request_switch ready right (releaseManualAction_standing _ standing)

end Sys2Proof.Machine
end

section
/-! OBLIGATION. Requests with a right check whose body no row of the table spells (R111, R151, R154, R155). -/

namespace Sys2Proof.Machine

/-! ### The kinds of a request (R155) -/

section kinds
variable {l : LinkId} {q : Request} {s : State}

theorem takeRequest_ready (ready : (s.link l).state = .ready) (right : q.rightCheck = q.check) :
    takeRequest l q s = handleKind l q s := by
  unfold takeRequest
  rw [ready]
  exact if_pos right

theorem handleKind_bare (kind : q.kind = 1 ∨ q.kind = 5) : handleKind l q s = handleBare l q s := if_pos kind

theorem handleKind_read (kind : q.kind = 2) : handleKind l q s = handleReadBody l q s := by
  unfold handleKind
  rw [kind]
  rfl

theorem handleKind_stage (kind : q.kind = 3) : handleKind l q s = handleStageBody l q s := by
  unfold handleKind
  rw [kind]
  rfl

theorem handleKind_two (kind : q.kind = 4 ∨ q.kind = 7) : handleKind l q s = handleTwo l q s := by
  unfold handleKind
  obtain kind | kind := kind <;> rw [kind] <;> rfl

theorem handleKind_switch (kind : q.kind = 6) : handleKind l q s = handleSwitchBody l q s := by
  unfold handleKind
  rw [kind]
  rfl

theorem handleKind_one (kind : q.kind = 8 ∨ q.kind = 9 ∨ q.kind = 10 ∨ q.kind = 11) :
    handleKind l q s = handleOne l q s := by
  unfold handleKind
  obtain kind | kind | kind | kind := kind <;> rw [kind] <;> rfl

theorem handleKind_reset (kind : q.kind = 12) :
    handleKind l q s = handleReset l q (fun why => answer l q why []) s := by
  unfold handleKind
  rw [kind]
  rfl

end kinds

/-! ### A body of another length than its kind's (R155) -/

section length
variable {l : LinkId} {q : Request} {s : State}

theorem wrongLength_eq (l : LinkId) (q : Request) (s : State) :
    wrongLength l q s = Claim.answered l q.kind q.tag .badLength [] s := answer_eq ..

theorem handleBare_wrong (wrong : q.body.length ≠ 0) : handleBare l q s = wrongLength l q s :=
  if_neg fun empty => wrong (List.length_eq_zero_iff.mpr empty)

theorem handleOne_wrong (wrong : q.body.length ≠ 1) : handleOne l q s = wrongLength l q s := by
  unfold handleOne
  split
  · next body => exact absurd (congrArg List.length body) wrong
  · rfl

theorem handleTwo_wrong (wrong : q.body.length ≠ 2) : handleTwo l q s = wrongLength l q s := by
  unfold handleTwo
  split
  · next body => exact absurd (congrArg List.length body) wrong
  · rfl

theorem handleSwitchBody_wrong (wrong : q.body.length ≠ 3) : handleSwitchBody l q s = wrongLength l q s := by
  unfold handleSwitchBody
  split
  · next body => exact absurd (congrArg List.length body) wrong
  · rfl

theorem handleReadBody_wrong (wrong : q.body.length ≠ 4) : handleReadBody l q s = wrongLength l q s := by
  unfold handleReadBody
  split
  · next body => exact absurd (congrArg List.length body) wrong
  · rfl

theorem handleStageBody_short (short : q.body.length < 3) : handleStageBody l q s = wrongLength l q s := by
  unfold handleStageBody
  split
  · next body =>
    rw [body] at short
    simp only [List.length_cons] at short
    omega
  · rfl

/-- A RESET whose body is neither 1 nor 2 is refused by its length, and then by its operand (R155). -/
theorem handleReset_refused (no : Status → State → State) (link : q.body ≠ [1]) (part : q.body ≠ [2]) :
    handleReset l q no s = no (if q.body.length = 1 then .badValue else .badLength) s := by
  unfold handleReset
  split
  · next x body =>
    have first : ¬ x = 1 := fun h => link (h ▸ body)
    have second : ¬ x = 2 := fun h => part (h ▸ body)
    rw [if_neg first, if_neg second, body]
    rfl
  · next other =>
    rw [if_neg fun single => ?_]
    obtain ⟨x, body⟩ := List.length_eq_one_iff.mp single
    exact other x body


/-- A RESET of a READY link is refused as any other kind's wrong length is. -/
theorem handleReset_wrong (wrong : q.body.length ≠ 1) :
    handleReset l q (fun why => answer l q why []) s = wrongLength l q s := by
  have other : ∀ x, q.body ≠ [x] := fun x body => wrong (congrArg List.length body)
  rw [handleReset_refused _ (other 1) (other 2), if_neg wrong]
  rfl

end length

/-! ### An operand that no row spells (R111, R155) -/

section operand
variable {l : LinkId} {q : Request} {s : State}

theorem switchAction_unknown {action operand option : Octet}
    (unknown : action.toNat = 0 ∨ 7 < action.toNat ∨ action = 6 ∧ operand ≠ 1 ∧ operand ≠ 2) :
    switchAction l action operand option s = (.badValue, s) := by
  obtain number | number | ⟨rfl, forced, manual⟩ := unknown
  · unfold switchAction
    rw [number]
    rfl
  · obtain ⟨n, number⟩ : ∃ n, action.toNat = n + 8 := ⟨action.toNat - 8, by omega⟩
    unfold switchAction
    rw [number]
    rfl
  · exact (if_neg forced).trans (if_neg manual)

theorem handleTrunk_unknown {action trunk : Octet} (restart : action ≠ 1) (recenter : action ≠ 2) :
    handleTrunk l q action trunk s = Claim.answered l q.kind q.tag .badValue [] s := by
  unfold handleTrunk
  split
  · exact answer_eq ..
  · rw [if_neg restart, if_neg recenter, answer_eq]

theorem handleClear_unknown {x : Octet} (counters : x ≠ 1) (cause : x ≠ 2) :
    handleClear l q x s = Claim.answered l q.kind q.tag .badValue [] s := by
  unfold handleClear
  rw [if_neg counters, if_neg cause, answer_eq]

end operand

theorem answerAside_eq (l : LinkId) (q : Request) (status : Status) (s : State) : answerAside l q status s
    = if (s.link l).waiting = [] then s.setLink l (Claim.sent (s.link l) (Claim.reply s l q.kind q.tag status [])) else s := by
  unfold answerAside
  rw [makeResponse_eq, send_eq_sent]
  exact if_congr List.isEmpty_iff rfl rfl

/-- A RESET with a right check on a link that is not READY is handled with its refusals put aside (R151, R154). -/
theorem takeRequest_resetAside {l : LinkId} {q : Request} {s : State} (busy : (s.link l).state ≠ .ready)
    (kind : q.kind = 12) (right : q.rightCheck = q.check) :
    takeRequest l q s = handleReset l q (answerAside l q) s := by
  unfold takeRequest
  split
  · next ready => exact absurd ready busy
  · exact if_pos ⟨right, kind⟩
  · exact if_pos ⟨right, kind⟩

/-- Settles O44: the lengths, then the operands, then a RESET on a link that is not READY. -/
theorem requestsThatNoRowSpells : Obligations.RequestsThatNoRowSpells := by
  unfold Obligations.RequestsThatNoRowSpells
  refine ⟨fun l kind tag body s ready => ?_, fun l tag body s busy link part => ?_⟩
  · intro q refused
    have taken : takeRequest l q s = handleKind l q s := takeRequest_ready ready rfl
    have short : handleKind l q s = wrongLength l q s → refused .badLength := fun h =>
      taken.trans (h.trans (wrongLength_eq l q s))
    refine ⟨?_, ?_, ?_, ?_, ?_, ?_, ?_, ?_, ?_⟩
    · exact fun bare wrong => short ((handleKind_bare bare).trans (handleBare_wrong wrong))
    · rintro (kind | kind | kind | kind | reset) wrong
      · exact short ((handleKind_one (.inl kind)).trans (handleOne_wrong wrong))
      · exact short ((handleKind_one (.inr (.inl kind))).trans (handleOne_wrong wrong))
      · exact short ((handleKind_one (.inr (.inr (.inl kind)))).trans (handleOne_wrong wrong))
      · exact short ((handleKind_one (.inr (.inr (.inr kind)))).trans (handleOne_wrong wrong))
      · exact short ((handleKind_reset reset).trans (handleReset_wrong wrong))
    · exact fun two wrong => short ((handleKind_two two).trans (handleTwo_wrong wrong))
    · exact fun switch wrong => short ((handleKind_switch switch).trans (handleSwitchBody_wrong wrong))
    · exact fun read wrong => short ((handleKind_read read).trans (handleReadBody_wrong wrong))
    · exact fun stage wrong => short ((handleKind_stage stage).trans (handleStageBody_short wrong))
    · rintro action operand option rfl rfl unknown
      refine (taken.trans (handleKind_switch rfl)).trans ?_
      change handleSwitch l q action operand option s = _
      unfold handleSwitch
      rw [switchAction_unknown unknown]
      exact answer_switched q rfl .badValue s
    · rintro action trunk rfl rfl restart recenter
      exact taken.trans (handleTrunk_unknown restart recenter)
    · rintro x (rfl | rfl) rfl first second
      · exact taken.trans (handleClear_unknown first second)
      · refine (taken.trans (handleKind_reset rfl)).trans ?_
        have other : ∀ y, x ≠ y → [x] ≠ [y] := fun y h same => h (List.head_eq_of_cons_eq same)
        rw [handleReset_refused _ (other 1 first) (other 2 second)]
        exact answer_eq ..
  · rw [takeRequest_resetAside busy rfl rfl, handleReset_refused _ link part, answerAside_eq]

end Sys2Proof.Machine
end

section
/-! OBLIGATIONS. The synthesizer follows the selection, and the exchange QL of each of its states (R132, R133, R146, R147);
the phase sample (R134 to R142, R146, R147). -/

namespace Sys2Proof.Machine

/-! ### O41: the exchange QL by state (R146) -/

section ql
variable {s : State} {c : Cand}

theorem exchangeQlOf_freerun (state : s.synth.state = .freerun) : exchangeQlOf s = s.cfg.synth.freerunQl := by
  unfold exchangeQlOf
  rw [state]

theorem exchangeQlOf_holdover (state : s.synth.state = .holdover) : exchangeQlOf s = s.cfg.synth.holdoverQl := by
  unfold exchangeQlOf
  rw [state]

theorem Synth.holdoverValid_iff (y : Synth) : y.holdoverValid = true ↔ y.history = 64 := beq_iff_eq

/-- ACQUIRE passes on the QL of the state it would fall back to. -/
theorem exchangeQlOf_acquire (state : s.synth.state = .acquire) :
    exchangeQlOf s = if s.synth.history = 64 then s.cfg.synth.holdoverQl else s.cfg.synth.freerunQl := by
  unfold exchangeQlOf
  rw [state]
  simp only [Synth.holdoverValid_iff]

theorem exchangeQlOf_locked (state : s.synth.state = .locked) (selected : s.sel.selection = some c) :
    exchangeQlOf s = candidateQl s c := by
  unfold exchangeQlOf
  rw [state, selected]

theorem candidateQl_trunk {n : Trunk} (source : (s.cfg.cands[c]).source = .trunk n) :
    candidateQl s c = (s.framers[n]).ql := by
  unfold candidateQl
  rw [source]

theorem candidateQl_station {i : Station} (source : (s.cfg.cands[c]).source = .station i) :
    candidateQl s c = (s.cfg.cands[c]).assumedQl := by
  unfold candidateQl
  rw [source]

end ql

/-! ### O41: a change of state (R146, R147) -/

/-- A synthesizer y put into a new state, with the exchange QL that this state has in s. -/
def Synth.entered (y : Synth) (new : SynthState) (s : State) : Synth :=
  { y with state := new, exchangeQl := exchangeQlOf (s.setSynth { y with state := new }) }

theorem selectionSubject_some {s : State} {c : Cand} (selected : s.sel.selection = some c) :
    selectionSubject s = .candidate c := by
  unfold selectionSubject
  rw [selected]

theorem selectionSubject_none {s : State} (none : s.sel.selection = none) : selectionSubject s = .none := by
  unfold selectionSubject
  rw [none]

section enter
variable {new : SynthState} {y : Synth} {s : State}

/-- A state entered from itself is no change, and raises nothing. -/
theorem enterSynth_same (same : y.state = new) : enterSynth new (s.setSynth y) = s.setSynth (y.entered new s) :=
  congrArg recomputeQl (if_pos same)

theorem enterSynth_changed (changed : y.state ≠ new) :
    enterSynth new (s.setSynth y)
      = raise .synthState (selectionSubject s) (detailOf y.state.number new.number) (s.setSynth (y.entered new s)) :=
  congrArg recomputeQl (if_neg changed)

end enter

section entered
variable (y : Synth) (s : State)

theorem Synth.entered_acquire : y.entered .acquire s = { y with
    state := .acquire
    exchangeQl := if y.history = 64 then s.cfg.synth.holdoverQl else s.cfg.synth.freerunQl } := by
  unfold Synth.entered
  rw [exchangeQlOf_acquire rfl]
  rfl

theorem Synth.entered_holdover :
    y.entered .holdover s = { y with state := .holdover, exchangeQl := s.cfg.synth.holdoverQl } := by
  unfold Synth.entered
  rw [exchangeQlOf_holdover rfl]
  rfl

theorem Synth.entered_freerun :
    y.entered .freerun s = { y with state := .freerun, exchangeQl := s.cfg.synth.freerunQl } := by
  unfold Synth.entered
  rw [exchangeQlOf_freerun rfl]
  rfl

end entered

/-! ### O41: a new selection (R132, R133) -/

section follow
variable {s : State} {c : Cand}

/-- The synthesizer of a candidate just selected, before it enters ACQUIRE. -/
def Synth.started (y : Synth) (f0 : Int) : Synth :=
  { y.clearCounters with
    i := match y.state with
      | .holdover => y.h
      | .freerun => f0
      | .acquire | .locked => y.i
    buildOut := true }

theorem followSelection_some (selected : s.sel.selection = some c) :
    followSelection s = enterSynth .acquire (s.setSynth (s.synth.started s.cfg.synth.f0)) := by
  unfold followSelection
  rw [selected]
  rfl

/-- Without a selection before, there is none to lose. -/
theorem followSelection_free (none : s.sel.selection = none)
    (free : s.synth.state = .holdover ∨ s.synth.state = .freerun) : followSelection s = s := by
  unfold followSelection loseSelection
  rw [none]
  rcases free with state | state <;> rw [state]

theorem followSelection_lost (none : s.sel.selection = none)
    (pulled : s.synth.state = .acquire ∨ s.synth.state = .locked) :
    followSelection s = enterSynth (if s.synth.history = 64 then .holdover else .freerun)
      (s.setSynth (s.synth.release s.cfg.synth.f0)) := by
  unfold followSelection loseSelection
  simp only [← Synth.holdoverValid_iff]
  rw [none]
  rcases pulled with state | state <;> rw [state]

theorem Synth.release_valid {y : Synth} (f0 : Int) (valid : y.history = 64) :
    y.release f0 = { y.clearCounters with f := y.h, i := y.h, buildOut := false } := by
  unfold Synth.release
  rw [if_pos (y.holdoverValid_iff.mpr valid)]

theorem Synth.release_invalid {y : Synth} (f0 : Int) (invalid : y.history ≠ 64) :
    y.release f0 = { y.clearCounters with f := f0, i := f0, buildOut := false } := by
  unfold Synth.release
  rw [if_neg (mt y.holdoverValid_iff.mp invalid)]

end follow

/-- Settles O41: by what the selection is, then by the state the synthesizer was in. -/
theorem synthesizerFollowsTheSelectionAndItsQl : Obligations.SynthesizerFollowsTheSelectionAndItsQl := by
  unfold Obligations.SynthesizerFollowsTheSelectionAndItsQl
  refine ⟨fun s => ⟨fun c selected => ?_, fun none => ⟨followSelection_free none, fun pulled => ⟨fun valid => ?_,
    fun invalid => ?_⟩⟩⟩, fun s => ⟨exchangeQlOf_freerun, exchangeQlOf_holdover, exchangeQlOf_acquire,
    fun c locked selected => ⟨fun n source => ?_, fun i source => ?_⟩⟩⟩
  · intro start u
    rw [followSelection_some selected]
    split
    · next acquires =>
      rw [enterSynth_same (y := s.synth.started _) acquires, Synth.entered_acquire]
      rfl
    · next other =>
      rw [enterSynth_changed (y := s.synth.started _) other, Synth.entered_acquire, selectionSubject_some selected]
      rfl
  · have other : s.synth.state ≠ .holdover := by rcases pulled with state | state <;> rw [state] <;> nofun
    rw [followSelection_lost none pulled, if_pos valid, enterSynth_changed (y := s.synth.release _) other,
      Synth.entered_holdover, selectionSubject_none none, Synth.release_valid _ valid]
    rfl
  · have other : s.synth.state ≠ .freerun := by rcases pulled with state | state <;> rw [state] <;> nofun
    rw [followSelection_lost none pulled, if_neg invalid, enterSynth_changed (y := s.synth.release _) other,
      Synth.entered_freerun, selectionSubject_none none, Synth.release_invalid _ invalid]
    rfl
  · rw [exchangeQlOf_locked locked selected, candidateQl_trunk source]
  · rw [exchangeQlOf_locked locked selected, candidateQl_station source]

/-! ### O42: the measurement of a sample (R134 to R137) -/

theorem clampE_eq (x : Int) : clampE x = Claim.clamp 64 x := by
  unfold clampE Claim.clamp
  omega

theorem clampF_eq (x : Int) : clampF x = Claim.clamp 10000 x := by
  unfold clampF Claim.clamp
  omega

section measure
variable (y : Synth) (band : Fin 4) (raw : Nat)

/-- A build-out sample has the phase error 0 (R135). -/
theorem phase_buildOut (out : y.buildOut = true) : Claim.phase y raw = 0 := if_pos out

/-- Any other sample has the error from O (R136). -/
theorem phase_kept (kept : ¬ y.buildOut = true) : Claim.phase y raw = phaseError raw y.o := if_neg kept

/-- Either sample is the loop update on its clamped phase error (R135 to R137). -/
theorem Synth.measure_eq : y.measure band raw =
    { y.loopUpdate band (clampE (Claim.phase y raw)) with
      o := if y.buildOut then raw else y.o
      buildOut := false
      last := some { raw := raw, d := Claim.phase y raw, e := clampE (Claim.phase y raw) } } := by
  unfold Synth.measure
  split
  · next out =>
    rw [phase_buildOut y raw out]
    rfl
  · next kept =>
    rw [phase_kept y raw kept, ← Bool.eq_false_of_not_eq_true kept]
    rfl

end measure

section sample
variable {s : State} {c : Cand} {m : Tick}

/-- A state with the sample of a marker measured. -/
def sampled (m : Tick) (s : State) : State :=
  s.setSynth (s.synth.measure s.cfg.synth.band (rawPhase s.gen.frameStart m))

theorem phaseSample_free (free : s.synth.state = .freerun ∨ s.synth.state = .holdover) : phaseSample s = s := by
  unfold phaseSample
  split
  · rfl
  · split
    · rfl
    · rcases free with state | state <;> rw [state]

theorem phaseSample_acquire (acquires : s.synth.state = .acquire) (selected : s.sel.selection = some c)
    (marked : (s.cands[c]).latest = some m) : phaseSample s = countAcquire c (sampled m s) := by
  unfold phaseSample
  simp only [selected, marked, acquires]
  rfl

theorem phaseSample_locked (locked : s.synth.state = .locked) (selected : s.sel.selection = some c)
    (marked : (s.cands[c]).latest = some m) : phaseSample s = countLocked c (sampled m s) := by
  unfold phaseSample
  simp only [selected, marked, locked]
  rfl

end sample

/-! ### O42: a sample in ACQUIRE (R138, R140) -/

/-- The lock count after one more sample, where it has not reached its end. -/
def Synth.lockAfter (y : Synth) : Nat := if y.lastD.natAbs ≤ 4 then y.lockCount + 1 else 0

/-- The synthesizer after one more count in ACQUIRE. -/
def Synth.acquireCounted (y : Synth) : Synth :=
  { y with acquireTimer := y.acquireTimer + 1, lockCount := y.lockAfter }

theorem timeOut_eq (c : Cand) (s : State) :
    timeOut c s = (raise .acquireTimeout (.candidate c) (BitVec.ofNat 16 (min 65535 (s.synth.timeoutCount + 1)))
      (s.setSynth { s.synth with timeoutCount := min 65535 (s.synth.timeoutCount + 1), acquireTimer := 0 })).setSel
        { s.sel with timeouts := s.sel.timeouts ++ [c] } := by
  unfold timeOut
  rw [bump_eq_min]
  rfl

/-- A count in ACQUIRE ends in LOCKED, in a timeout, or in neither; the lock comes before the timeout. -/
theorem countAcquire_eq (c : Cand) (s : State) (lock : s.synth.lockCount < 8) (timer : s.synth.acquireTimer < 1024) :
    countAcquire c s =
      if s.synth.lockAfter = 8 then
        (enterSynth .locked (s.setSynth { s.synth.acquireCounted with lossCount := 0 })).setCand c
          { s.cands[c] with lockFail := false }
      else if s.synth.acquireTimer + 1 = 1024 then timeOut c (s.setSynth s.synth.acquireCounted)
      else s.setSynth s.synth.acquireCounted := by
  have counts : (if s.synth.lastD.natAbs ≤ 4 then bump 8 s.synth.lockCount else 0) = s.synth.lockAfter := by
    rw [bump_of_lt 8 _ lock]
    rfl
  have ticks : bump Config.acquireSamples s.synth.acquireTimer = s.synth.acquireTimer + 1 := bump_of_lt 1024 _ timer
  have ended : Config.acquireSamples ≤ s.synth.acquireTimer + 1 ↔ s.synth.acquireTimer + 1 = 1024 := by
    unfold Config.acquireSamples
    omega
  have cands : ∀ u : State, (enterSynth .locked u).cands = u.cands := fun u => (enterSynth_steers .locked u).cands
  unfold countAcquire
  simp only [State.setSynth_synth, counts, ticks, ended, cands]
  rfl

section acquire
variable {s : State} {c : Cand}

/-- The lock count at its end leads to LOCKED and clears the lock-fail mark (R138). -/
theorem countAcquire_locks (acquires : s.synth.state = .acquire) (selected : s.sel.selection = some c)
    (lock : s.synth.lockCount < 8) (timer : s.synth.acquireTimer < 1024) (locks : s.synth.lockAfter = 8) :
    countAcquire c s =
      (raise .synthState (.candidate c) 0x0102 (s.setSynth
        (Synth.entered { s.synth with lockCount := 8, lossCount := 0, acquireTimer := s.synth.acquireTimer + 1 }
          .locked s))).setCand c { s.cands[c] with lockFail := false } := by
  have other : s.synth.state ≠ .locked := by rw [acquires]; nofun
  rw [countAcquire_eq c s lock timer, if_pos locks]
  unfold Synth.acquireCounted
  rw [locks, enterSynth_changed, selectionSubject_some selected]
  · dsimp only
    rw [acquires]
    rfl
  · exact other

/-- Short of both ends a sample counts and no more. -/
theorem countAcquire_counts (lock : s.synth.lockCount < 8) (still : s.synth.lockAfter ≠ 8)
    (early : s.synth.acquireTimer + 1 < 1024) : countAcquire c s = s.setSynth s.synth.acquireCounted := by
  rw [countAcquire_eq c s lock (Nat.lt_of_succ_lt early), if_neg still, if_neg (Nat.ne_of_lt early)]

/-- The timer at its end hands the candidate to the selector (R140; assumption 15). -/
theorem countAcquire_timesOut (lock : s.synth.lockCount < 8) (still : s.synth.lockAfter ≠ 8)
    (ended : s.synth.acquireTimer + 1 = 1024) : countAcquire c s = timeOut c (s.setSynth s.synth.acquireCounted) := by
  rw [countAcquire_eq c s lock (ended ▸ Nat.lt_succ_self _), if_neg still, if_pos ended]

end acquire

/-! ### O42: a sample in LOCKED (R139, R141, R142) -/

/-- The loss count after one more sample, where it has not reached its end. -/
def Synth.lossAfter (y : Synth) : Nat := if 32 < y.lastD.natAbs then y.lossCount + 1 else 0

/-- H and the history count with one more sample; the division rounds down (R141). -/
theorem Synth.keepHistory_eq (y : Synth) :
    y.keepHistory = { y with h := y.h + Int.fdiv (y.i - y.h) 16, history := min 64 (y.history + 1) } := by
  unfold Synth.keepHistory
  rw [bump_eq_min, Int.fdiv_eq_ediv_of_nonneg _ (by decide)]

theorem recordHistory_eq (c : Cand) (s : State) (count : s.synth.history ≤ 64) :
    recordHistory c s =
      if s.synth.history = 63 then
        raise .holdoverValid (.candidate c) (BitVec.ofInt 16 s.synth.keepHistory.h) (s.setSynth s.synth.keepHistory)
      else s.setSynth s.synth.keepHistory := by
  have reaches : s.synth.history < 64 ∧ s.synth.keepHistory.history = 64 ↔ s.synth.history = 63 := by
    rw [Synth.keepHistory_eq]
    dsimp only
    omega
  unfold recordHistory
  simp only [reaches]

/-- A count in LOCKED loses the lock, or takes the sample into the history. -/
theorem countLocked_eq (c : Cand) (s : State) (loss : s.synth.lossCount < 2) :
    countLocked c s =
      if s.synth.lossAfter = 2 then
        enterSynth .acquire
          (s.setSynth { s.synth with lossCount := 2, acquireTimer := 0, lockCount := 0, timeoutCount := 0 })
      else recordHistory c (s.setSynth { s.synth with lossCount := s.synth.lossAfter }) := by
  have counts : (if 32 < s.synth.lastD.natAbs then bump 2 s.synth.lossCount else 0) = s.synth.lossAfter := by
    rw [bump_of_lt 2 _ loss]
    rfl
  unfold countLocked
  simp only [counts]
  split
  · next lost => rw [lost]
  · rfl

section locked
variable {s : State} {c : Cand}

/-- The loss count at its end leads back to ACQUIRE, with its counters at 0 (R139). -/
theorem countLocked_loses (locked : s.synth.state = .locked) (selected : s.sel.selection = some c)
    (loss : s.synth.lossCount < 2) (lost : s.synth.lossAfter = 2) :
    countLocked c s =
      raise .synthState (.candidate c) 0x0201 (s.setSynth { s.synth with
        state := .acquire, lossCount := 2, acquireTimer := 0, lockCount := 0, timeoutCount := 0
        exchangeQl := if s.synth.history = 64 then s.cfg.synth.holdoverQl else s.cfg.synth.freerunQl }) := by
  have other : s.synth.state ≠ .acquire := by rw [locked]; nofun
  rw [countLocked_eq c s loss, if_pos lost, enterSynth_changed, Synth.entered_acquire, selectionSubject_some selected]
  · dsimp only
    rw [locked]
    rfl
  · exact other

/-- Any other sample enters the history (R141). -/
theorem countLocked_keeps (loss : s.synth.lossCount < 2) (history : s.synth.history ≤ 64)
    (still : s.synth.lossAfter ≠ 2) :
    countLocked c s =
      let y := Synth.keepHistory { s.synth with lossCount := s.synth.lossAfter }
      if s.synth.history = 63 then raise .holdoverValid (.candidate c) (BitVec.ofInt 16 y.h) (s.setSynth y)
      else s.setSynth y := by
  rw [countLocked_eq c s loss, if_neg still]
  exact recordHistory_eq c (s.setSynth _) history

end locked

/-- Settles O42: the measurement, then by state what the sample counts and where the count leads. -/
theorem Synth.phaseSample : Obligations.PhaseSample := by
  unfold Obligations.PhaseSample
  refine ⟨fun s => phaseSample_free, ?_⟩
  intro s c m selected marked y k raw d e i Y
  have measured : sampled m s = s.setSynth Y := by
    unfold sampled
    rw [Synth.measure_eq]
    unfold Synth.loopUpdate
    simp only [clampE_eq, clampF_eq]
    rfl
  have selects : (s.setSynth Y).sel.selection = some c := selected
  constructor
  · intro acquires lock timer count L n
    rw [phaseSample_acquire acquires selected marked, measured]
    refine ⟨countAcquire_locks (s := s.setSynth Y) acquires selected lock timer,
      countAcquire_counts (s := s.setSynth Y) lock, fun still ended => ?_⟩
    rw [countAcquire_timesOut (s := s.setSynth Y) lock still ended, timeOut_eq]
    rfl
  · intro locked loss history count H
    rw [phaseSample_locked locked selected marked, measured]
    refine ⟨countLocked_loses (s := s.setSynth Y) locked selected loss, fun still => ?_⟩
    rw [countLocked_keeps (s := s.setSynth Y) loss history still, Synth.keepHistory_eq]
    rfl

end Sys2Proof.Machine
end

section
/-! OBLIGATIONS. The request rows, the check and the octets of a response (R151, R153, R154, R170). -/

namespace Sys2Proof.Machine

/-! ### The check, octet by octet and bit by bit (5.3) -/

/-- The register of the check after one message bit: a bit that differs from the top bit brings in the polynomial. -/
def crcBit (reg : Word16) (b : Bool) : Word16 := (reg <<< 1) ^^^ (if reg.msb = b then 0 else 0x1021)

/-- The bits of an octet, most significant first. -/
def octetBits (o : Octet) : List Bool := (List.range 8).map o.getMsbD

theorem crc_eq_foldl (message : List Octet) : Claim.crc message = (message.flatMap octetBits).foldl crcBit 0xFFFF := rfl

/-- A word put into the register ahead of a shift gives its top bit to the shift, and goes on shifted. -/
theorem crcShift_xor (reg v : Word16) : crcShift (reg ^^^ v) = crcBit reg v.msb ^^^ (v <<< 1) := by
  unfold crcShift crcBit
  rw [BitVec.msb_xor, BitVec.shiftLeft_xor_distrib]
  cases reg.msb <;> cases v.msb <;> simp [BitVec.xor_assoc, BitVec.xor_comm (v <<< 1)]

/-- After n shifts the register has taken the first n bits of the word, one by one. -/
theorem crcShift_iterate (reg v : Word16) (n : Nat) :
    crcShift^[n] (reg ^^^ v) = ((List.range n).map v.getMsbD).foldl crcBit reg ^^^ (v <<< n) := by
  induction n with
  | zero => simp
  | succ n ih =>
    have top : (v <<< n).msb = v.getMsbD n := by rw [BitVec.msb, BitVec.getMsbD_shiftLeft, Nat.zero_add]
    rw [Function.iterate_succ_apply', ih, crcShift_xor, top, ← BitVec.shiftLeft_add, List.range_succ, List.map_append,
      List.foldl_append]
    rfl

/-- An octet in the high half of a word: its bits come first, and eight shifts leave nothing of it. -/
theorem crcOctet_eq (reg : Word16) (o : Octet) : crcOctet reg o = (octetBits o).foldl crcBit reg := by
  have gone : (o.setWidth 16 <<< 8) <<< 8 = (0 : Word16) := by
    rw [← BitVec.shiftLeft_add]
    exact BitVec.shiftLeft_eq_zero (by decide)
  have bits : (List.range 8).map (o.setWidth 16 <<< 8).getMsbD = octetBits o := by
    refine List.map_congr_left fun k _ => ?_
    simp [BitVec.getMsbD_shiftLeft, BitVec.getMsbD_setWidth]
  have run := crcShift_iterate reg (o.setWidth 16 <<< 8) 8
  rw [gone, bits] at run
  exact run.trans BitVec.xor_zero

theorem checkOf_eq_crc (os : List Octet) : checkOf os = Claim.crc os := by
  rw [crc_eq_foldl, List.foldl_flatMap]
  unfold checkOf
  congr 1
  funext reg o
  exact crcOctet_eq reg o

theorem checkFor_eq_crc (kind tag : Octet) (body : List Octet) :
    checkFor kind tag body = Claim.crc (kind :: tag :: Claim.one body.length ++ body) := checkOf_eq_crc _

/-! ### The octets of a response (5.3) -/

theorem statusCode_eq (status : Status) : status.code = Claim.statusCode status := by cases status <;> rfl

theorem checked_eq (r : Response) :
    r.checked = r.kind :: r.tag :: Claim.statusCode r.status :: Claim.two r.generation.toNat ++ [r.flags]
      ++ Claim.one r.body.length ++ r.body := by
  unfold Response.checked
  rw [statusCode_eq, be16_toNat]
  rfl

theorem responseOctets_eq (r : Response) :
    r.octets = 0x7E :: r.checked ++ Claim.two (Claim.crc r.checked).toNat := by
  unfold Response.octets
  rw [be16_toNat, checkOf_eq_crc]

/-! ### A request row is its request taken by its link (assumption 6) -/

/-- One case per row: the rows that stand for no request have none to be taken. -/
theorem exec_rowRequest {c : Instr} {l : LinkId} {q : Request} {s : State} (row : Claim.rowRequest c = some (l, q))
    (takes : Takes s) : exec c s = .next (takeRequest l q s) := by
  refine Eq.trans ?_ (taken_takes (takeRequest l q) s takes)
  cases c <;> cases row <;> rfl

section request
variable {l : LinkId} {q : Request} {s : State}

/-- A READY link answers a wrong check BAD-CHECK (R153). -/
theorem takeRequest_badCheck (ready : (s.link l).state = .ready) (wrong : q.check ≠ checkFor q.kind q.tag q.body) :
    takeRequest l q s = Claim.answered l q.kind q.tag .badCheck [] s := by
  unfold takeRequest
  rw [ready]
  exact (if_neg (Ne.symm wrong)).trans (answer_eq ..)

/-- A link that is not READY puts everything but a right RESET aside with BUSY (R151, assumption 8). -/
theorem takeRequest_busy (busy : (s.link l).state ≠ .ready)
    (other : ¬ (q.check = checkFor q.kind q.tag q.body ∧ q.kind = 12)) :
    takeRequest l q s = answerAside l q .busy s := by
  have notReset : ¬ (q.rightCheck = q.check ∧ q.kind = 12) := fun ⟨right, kind⟩ => other ⟨right.symm, kind⟩
  unfold takeRequest
  split
  · next ready => exact absurd ready busy
  · exact if_neg notReset
  · exact if_neg notReset

/-- The kinds are 1 to 12 (R153). -/
theorem handleKind_unknown (unknown : q.kind = 0 ∨ 12 < q.kind.toNat) :
    handleKind l q s = Claim.answered l q.kind q.tag .badKind [] s := by
  have outside : q.kind.toNat = 0 ∨ 12 < q.kind.toNat := unknown.imp_left (congrArg BitVec.toNat)
  have other : ∀ k, 1 ≤ k → k ≤ 12 → q.kind ≠ BitVec.ofNat 8 k := fun k low high same => by
    rw [same, BitVec.toNat_ofNat] at outside
    omega
  simp [handleKind, answer_eq, other 1, other 2, other 3, other 4, other 5, other 6, other 7, other 8, other 9, other 10,
    other 11, other 12]

end request

/-- Settles O43: a row as its request, three requests of a READY link, and the check by its bits. -/
theorem requestsTakenByTheirLink : Obligations.RequestsTakenByTheirLink := by
  unfold Obligations.RequestsTakenByTheirLink
  refine ⟨fun c l q s row takes => ?_, fun l tag check s ready => ?_, checkFor_eq_crc, fun r => ?_⟩
  · rw [exec_rowRequest row takes]
    refine ⟨rfl, fun idle wrong => congrArg _ (takeRequest_badCheck idle wrong), fun busy other => congrArg _ ?_⟩
    rw [takeRequest_busy busy other, answerAside_eq]
  · refine ⟨fun kind body unknown right => ?_, fun right => ?_, fun right => ?_⟩
    · exact (request_ready l kind tag body check s ready right).trans (congrArg _ (handleKind_unknown unknown))
    · refine (request_ready l 1 tag [] check s ready right).trans (congrArg _ ?_)
      rw [handleKind_bare (.inl rfl)]
      exact answer_eq ..
    · refine (request_ready l 10 tag [2] check s ready right).trans (congrArg _ ?_)
      rw [handleKind_one (.inr (.inr (.inl rfl)))]
      exact answer_eq ..
  · rw [responseOctets_eq, checked_eq]

end Sys2Proof.Machine
end

section
/-! OBLIGATIONS. STAGE, DISCARD and COMMIT (R151, R158, R159, R160, R162). -/

namespace Sys2Proof.Machine

/-! ### STAGE and DISCARD -/

section stage
variable {l : LinkId} {q : Request} {code i1 i2 : Octet} {value : List Octet} {it : StageItem} {s : State}

theorem exec_stage {tag : Octet} {check : Word16} (ready : Ready s l)
    (right : check = checkFor 3 tag (code :: i1 :: i2 :: value)) :
    exec (.stage l tag code i1 i2 value check) s
      = .next (handleStage l { kind := 3, tag := tag, body := code :: i1 :: i2 :: value, check := check } code i1 i2
          value s) := by
  refine (request_ready l 3 tag _ check s ready right).trans (congrArg _ ?_)
  rw [handleKind_stage rfl]
  rfl

theorem exec_discard {tag : Octet} {check : Word16} (ready : Ready s l) (right : check = checkFor 5 tag []) :
    exec (.discard l tag check) s = .next (handleDiscard l { kind := 5, tag := tag, body := [], check := check } s) := by
  refine (request_ready l 5 tag _ check s ready right).trans (congrArg _ ?_)
  rw [handleKind_bare (.inr rfl)]
  rfl

theorem handleStage_unknown (unknown : stageItemOf code i1 i2 = none) :
    handleStage l q code i1 i2 value s = Claim.answered l q.kind q.tag .badItem [] s := by
  unfold handleStage
  rw [unknown]
  exact answer_eq ..

theorem handleStage_badLength (named : stageItemOf code i1 i2 = some it) (wrong : value.length ≠ it.valueLength) :
    handleStage l q code i1 i2 value s = Claim.answered l q.kind q.tag .badLength [] s := by
  unfold handleStage
  rw [named]
  exact (if_pos wrong).trans (answer_eq ..)

theorem handleStage_badValue (named : stageItemOf code i1 i2 = some it) (length : value.length = it.valueLength)
    (refused : stagedValue it value = none) :
    handleStage l q code i1 i2 value s = Claim.answered l q.kind q.tag .badValue [] s := by
  unfold handleStage
  rw [named]
  refine (if_neg (not_not.mpr length)).trans ?_
  rw [refused]
  exact answer_eq ..

/-- A value within its codes replaces the one staged for its item (R158). -/
theorem handleStage_staged {v : ItemValue} (named : stageItemOf code i1 i2 = some it)
    (length : value.length = it.valueLength) (valid : stagedValue it value = some v) :
    handleStage l q code i1 i2 value s = Claim.answered l q.kind q.tag .ok v.octets
      (s.setLink l { s.link l with staging := placeStaged (s.link l).staging v }) := by
  unfold handleStage
  rw [named]
  refine (if_neg (not_not.mpr length)).trans ?_
  rw [valid]
  exact answer_eq ..

end stage

/-- Settles O47: the checks of a STAGE in their order, then DISCARD. -/
theorem stageAndDiscard : Obligations.StageAndDiscard := by
  unfold Obligations.StageAndDiscard
  refine ⟨fun l tag item i1 i2 value check s ready right => ?_, fun l tag check s ready right => ?_⟩
  · dsimp only
    rw [exec_stage ready right]
    refine ⟨fun unknown => congrArg _ (handleStage_unknown unknown), fun it named => ⟨fun wrong => ?_,
      fun length refused => ?_, fun v length valid => ?_⟩⟩
    · exact congrArg _ (handleStage_badLength named wrong)
    · exact congrArg _ (handleStage_badValue named length refused)
    · exact congrArg _ (handleStage_staged named length valid)
  · rw [exec_discard ready right]
    exact congrArg _ (answer_eq ..)

/-! ### COMMIT -/

/-- No enabled candidate is without a source or shares one with another (R159). -/
theorem sourceConflict_iff (k : Settings) :
    k.sourceConflict = false ↔ ∀ c : Cand, (k.cands[c]).enabled = true →
      (k.cands[c]).source ≠ .none
        ∧ ∀ d : Cand, d ≠ c → (k.cands[d]).enabled = true → (k.cands[d]).source ≠ (k.cands[c]).source := by
  simp [Settings.sourceConflict, List.any_eq_false]

theorem valid_iff (k : Settings) :
    k.valid = true ↔ k.rules[15].join = false ∧ ∀ c : Cand, (k.cands[c]).enabled = true →
      (k.cands[c]).source ≠ .none
        ∧ ∀ d : Cand, d ≠ c → (k.cands[d]).enabled = true → (k.cands[d]).source ≠ (k.cands[c]).source := by
  rw [← sourceConflict_iff]
  unfold Settings.valid
  rw [Bool.and_eq_true, Bool.not_eq_true', Bool.not_eq_true', and_comm]

/-- The multiframe start that a COMMIT waits for (R160, R162; assumption 24). -/
theorem nextMultiframe_eq (s : State) [Decidable (Claim.Due s ∧ s.gen.frameNumber = 15 ∧ s.applied = true)] :
    nextMultiframe s = if Claim.Due s ∧ s.gen.frameNumber = 15 ∧ s.applied = true then s.gen.epoch + 2
      else s.gen.epoch + 1 := by
  unfold nextMultiframe
  exact if_congr (and_congr_left' (startDue_iff s)) rfl rfl

section refusals
variable {l : LinkId} {expected : Word16} {s : State}

theorem commitRefusal_empty (empty : (s.link l).staging = []) : commitRefusal s l expected = some .empty :=
  if_pos (List.isEmpty_iff.mpr empty)

theorem commitRefusal_pending (staged : (s.link l).staging ≠ []) (pending : s.commit ≠ none) :
    commitRefusal s l expected = some .commitPending :=
  (if_neg (mt List.isEmpty_iff.mp staged)).trans (if_pos (Option.isSome_iff_ne_none.mpr pending))

/-- The checks behind the staging area and the pending commit: the generation, and then the merged configuration. -/
theorem commitRefusal_free (staged : (s.link l).staging ≠ []) (free : s.commit = none) :
    commitRefusal s l expected = if expected ≠ s.generation then some .stale
      else if (mergedConfig s l).valid then none else some .conflict := by
  refine (if_neg (mt List.isEmpty_iff.mp staged)).trans (if_neg ?_)
  rw [free]
  exact Bool.false_ne_true

end refusals

/-- The two octets of the expected generation are put together again. -/
theorem word16_be16 (w : Word16) : word16 (w.extractLsb' 8 8) (w.extractLsb' 0 8) = w :=
  (BitVec.extractLsb'_append_extractLsb'_eq_extractLsb' rfl).trans BitVec.extractLsb'_eq_self

section commit
variable {l : LinkId} {tag : Octet} {expected check : Word16} {s : State}

theorem exec_commit (ready : Ready s l)
    (right : check = checkFor 4 tag [expected.extractLsb' 8 8, expected.extractLsb' 0 8]) :
    exec (.commit l tag expected check) s
      = .next (handleCommit l { kind := 4, tag := tag, body := be16 expected, check := check } expected s) := by
  refine (request_ready l 4 tag (be16 expected) check s ready right).trans (congrArg _ ?_)
  rw [handleKind_two (.inl rfl)]
  change handleCommit l _ (word16 _ _) s = _
  rw [word16_be16]

variable {q : Request}

theorem handleCommit_refused {why : Status} (refused : commitRefusal s l expected = some why) :
    handleCommit l q expected s = Claim.answered l q.kind q.tag why [] s := by
  unfold handleCommit
  rw [refused]
  exact answer_eq ..

/-- An accepted COMMIT is pending and makes no response yet (R151, R159). -/
theorem handleCommit_accepted (accepted : commitRefusal s l expected = none) :
    handleCommit l q expected s
      = ({ s with commit := some { link := l, start := nextMultiframe s } } : State).setLink l
          { s.link l with state := .waiting, outstanding := some { kind := q.kind, tag := q.tag, work := .commit } } := by
  unfold handleCommit
  rw [accepted]
  cases l <;> rfl

end commit

/-- Settles O50: the four refusals in their order, then the pending commit. -/
theorem commitIsCheckedThenPending : Obligations.CommitIsCheckedThenPending := by
  unfold Obligations.CommitIsCheckedThenPending
  intro l tag expected check s ready right merged valid
  have validIff : (mergedConfig s l).valid = true ↔ valid := valid_iff merged
  dsimp only
  rw [exec_commit ready right]
  refine ⟨fun empty => ?_, fun staged pending => ?_, fun staged free stale => ?_, fun staged free current conflict => ?_,
    fun staged free current sound => ?_⟩
  · exact congrArg _ (handleCommit_refused (commitRefusal_empty empty))
  · exact congrArg _ (handleCommit_refused (commitRefusal_pending staged pending))
  · exact congrArg _ (handleCommit_refused ((commitRefusal_free staged free).trans (if_pos stale)))
  · have refused := (commitRefusal_free (expected := expected) staged free).trans (if_neg (not_not.mpr current))
    rw [if_neg (mt validIff.mp conflict)] at refused
    exact congrArg _ (handleCommit_refused refused)
  · have accepted := (commitRefusal_free (expected := expected) staged free).trans (if_neg (not_not.mpr current))
    rw [if_pos (validIff.mpr sound)] at accepted
    rw [handleCommit_accepted accepted, nextMultiframe_eq]

end Sys2Proof.Machine
end

section
/-! OBLIGATIONS. The request line, its timer, and the end of a response's sending (R151, R152, R153, R154). -/

namespace Sys2Proof.Machine

/-! ### Octets on the request line (R152, R153) -/

section line
variable {l : LinkId} {s : State}

theorem exec_requestOctet (takes : Takes s) (o : Octet) :
    exec (.requestLineOctetArrival l o) s = .next (requestOctet l o s) := taken_takes _ s takes

/-- Outside a request only the start octet is taken. -/
theorem requestOctet_outside (outside : (s.link l).reception = []) (o : Octet) :
    requestOctet l o s = if o = 0x7E then setReception l [o] (some s.gen.tick) s else s := by
  unfold requestOctet
  rw [outside]

theorem requestOctet_inside (inside : (s.link l).reception ≠ []) (o : Octet) :
    requestOctet l o s = receive l ((s.link l).reception ++ [o]) s := by
  unfold requestOctet
  split
  · next outside => exact absurd outside inside
  · rfl

/-- A request goes on where its length octet is not above 64 and its last check octet is still to come. -/
theorem receive_goesOn {got : List Octet} (fits : got.length = 4 → (got.getD 3 0).toNat ≤ 64)
    (partly : 4 < got.length → got.length < (got.getD 3 0).toNat + 6) :
    receive l got s = setReception l got (some s.gen.tick) s := by
  refine (if_neg fun ⟨four, above⟩ => ?_).trans (if_neg fun ⟨more, whole⟩ => ?_)
  · exact absurd (fits four) (Nat.not_le.mpr above)
  · exact absurd (partly more) (Nat.not_lt.mpr whole)

theorem receive_overlong {st kind tag n : Octet} (above : 64 < n.toNat) :
    receive l [st, kind, tag, n] s = takeOverlong l (requestOf [st, kind, tag, n]) (setReception l [] none s) :=
  if_pos ⟨rfl, above⟩

/-- The octets of a whole request are its fields (5.3). -/
theorem requestOf_whole (st kind tag n hi lo : Octet) (body : List Octet) :
    requestOf (st :: kind :: tag :: n :: body ++ [hi] ++ [lo])
      = { kind := kind, tag := tag, body := body, check := hi ++ lo } := by
  simp [requestOf, word16, List.getD_eq_getElem?_getD]

theorem receive_whole {st kind tag n hi lo : Octet} {body : List Octet} (length : body.length = n.toNat) :
    receive l (st :: kind :: tag :: n :: body ++ [hi] ++ [lo]) s
      = takeRequest l { kind := kind, tag := tag, body := body, check := hi ++ lo } (setReception l [] none s) := by
  have total : (st :: kind :: tag :: n :: body ++ [hi] ++ [lo]).length = n.toNat + 6 := by
    simp only [List.length_append, List.length_cons, List.length_nil]
    omega
  refine (if_neg fun ⟨four, _⟩ => ?_).trans ((if_pos ⟨?_, ?_⟩).trans (by rw [requestOf_whole]))
  · omega
  · omega
  · exact total.ge

variable {q : Request}

theorem takeOverlong_ready (ready : (s.link l).state = .ready) :
    takeOverlong l q s = Claim.answered l q.kind q.tag .badLength [] s := by
  unfold takeOverlong
  rw [ready]
  exact answer_eq ..

theorem takeOverlong_busy (busy : (s.link l).state ≠ .ready) : takeOverlong l q s = answerAside l q .busy s := by
  unfold takeOverlong
  split
  · next ready => exact absurd ready busy
  · rfl
  · rfl

theorem setReception_link (os : List Octet) (timer : Option Tick) :
    (setReception l os timer s).link l = { s.link l with reception := os, octetFrom := timer } :=
  State.link_setLink ..

end line

/-! ### The inter-octet timer (R152) and RESPONSE_SENT (R154) -/

section ends
variable {l : LinkId} {s : State}

theorem exec_interOctetTimerExpiry (takes : Takes s) :
    exec (.interOctetTimerExpiry l) s = .next (expireReception l s) := taken_takes _ s takes

theorem expireReception_early (early : ∀ b, (s.link l).octetFrom = some b → (s.gen.tick - b).toNat < 6292) :
    expireReception l s = s := by
  have notDue : interOctetDue s l = false := timerOver_false early
  unfold expireReception
  rw [notDue]
  rfl

theorem expireReception_over {b : Tick} (started : (s.link l).octetFrom = some b) (ran : 6292 ≤ (s.gen.tick - b).toNat) :
    expireReception l s = setReception l [] none s := by
  have due : interOctetDue s l = true := by
    rw [interOctetDue, started]
    exact timerOver_some ran
  exact if_pos due

theorem exec_responseSent (takes : Takes s) : exec (.responseSent l) s = .next (s.setLink l (s.link l).sent) :=
  taken_takes (fun t => t.setLink l (t.link l).sent) s takes

variable {k : Link} {r : Response}

theorem Link.sent_idle (idle : k.sending = none) : k.sent = k := by
  unfold Link.sent
  rw [idle]

theorem Link.sent_next {w : Response} {rest : List Response} (sends : k.sending = some r) (waits : k.waiting = w :: rest) :
    k.sent = { k with sending := some w, waiting := rest } := by
  unfold Link.sent
  rw [sends, waits]

theorem Link.sent_last (sends : k.sending = some r) (last : k.waiting = []) :
    k.sent = { k with sending := none, state := if k.state = .serving then .ready else k.state } := by
  unfold Link.sent
  rw [sends, last]

end ends

/-- Settles O56: the octets of a request in their order, the timer, and the three cases of a response's end. -/
theorem requestLineAndResponseSent : Obligations.RequestLineAndResponseSent := by
  unfold Obligations.RequestLineAndResponseSent
  refine ⟨fun l s takes => ?_, fun l s takes => ?_⟩
  · dsimp only
    simp only [exec_requestOctet takes, exec_interOctetTimerExpiry takes]
    refine ⟨fun outside => ⟨fun o other => ?_, ?_⟩, fun o inside short => ?_, fun st kind tag n at3 =>
      ⟨fun fits => ?_, fun above ready => ?_, fun above busy => ?_⟩, fun st kind tag n rest o got partly => ?_,
      fun st kind tag n body hi lo got length => ?_, fun early => ?_, fun b started ran => ?_⟩
    · rw [requestOctet_outside outside, if_neg other]
    · rw [requestOctet_outside outside, if_pos rfl]
      rfl
    · have few : ((s.link l).reception ++ [o]).length < 4 := by
        rw [List.length_append, List.length_singleton]
        omega
      rw [requestOctet_inside inside, receive_goesOn (fun four => by omega) (fun more => by omega)]
      rfl
    · rw [requestOctet_inside (by rw [at3]; nofun), at3]
      exact congrArg _ (receive_goesOn (fun _ => fits) (fun more => absurd more (lt_irrefl 4)))
    · rw [requestOctet_inside (by rw [at3]; nofun), at3]
      refine congrArg _ ((receive_overlong above).trans (takeOverlong_ready ?_))
      rw [setReception_link]
      exact ready
    · rw [requestOctet_inside (by rw [at3]; nofun), at3]
      refine congrArg _ ((receive_overlong above).trans ((takeOverlong_busy ?_).trans ((answerAside_eq ..).trans
        (if_congr ?_ rfl rfl))))
      · rw [setReception_link]
        exact busy
      · rw [setReception_link]
    · rw [requestOctet_inside (by rw [got]; nofun), got]
      have total : (st :: kind :: tag :: n :: rest ++ [o]).length = rest.length + 5 := by
        rw [List.length_append]
        rfl
      refine congrArg _ (receive_goesOn (fun four => by omega) (fun _ => ?_))
      change _ < n.toNat + 6
      omega
    · rw [requestOctet_inside (by rw [got]; nofun), got, receive_whole length]
      rfl
    · rw [expireReception_early early]
    · rw [expireReception_over started ran]
      rfl
  · dsimp only
    rw [exec_responseSent takes]
    refine ⟨fun idle => ?_, fun r sends => ⟨fun w rest waits => ?_, fun last => ?_⟩⟩
    · rw [Link.sent_idle idle, State.setLink_link]
    · rw [Link.sent_next sends waits]
    · rw [Link.sent_last sends last]

end Sys2Proof.Machine
end

section
/-! OBLIGATION. The event queues stay within their limit through every step (R167): one operation alone raises events, which
discards at a full queue, and all other writes of the blocks leave the links as they were. -/

namespace Sys2Proof.Machine

/-! ### One link's queue -/

theorem queuesFit_iff (s : State) : QueuesFit s ↔ ∀ l, (s.link l).queueFits :=
  ⟨fun h l => by cases l; exacts [h.1, h.2], fun h => ⟨h .a, h .b⟩⟩

/-- A queue emptied with its flag clear. -/
theorem Link.queueFits_of_empty {k : Link} (queue : k.queue = []) (overflow : k.overflow = false) : k.queueFits := by
  unfold Link.queueFits
  rw [queue, overflow]
  exact ⟨Nat.zero_le _, nofun⟩

theorem Replies.queueFits {k k' : Link} (replies : Replies k k') (h : k.queueFits) : k'.queueFits := by
  obtain ⟨-, queue, overflow⟩ := replies
  unfold Link.queueFits
  rw [queue, overflow]
  exact h

/-- The oldest events leave, and the flag with the last of them (R168). -/
theorem Link.queueFits.deliver {k k' : Link} {n : Nat} (h : k.queueFits) (queue : k'.queue = k.queue.drop n)
    (overflow : k'.overflow = (k.overflow && !(k.queue.drop n).isEmpty)) : k'.queueFits := by
  unfold Link.queueFits
  rw [queue, overflow, List.length_drop]
  refine ⟨(Nat.sub_le ..).trans h.1, fun full empty => ?_⟩
  simp [empty] at full

theorem handCapture_replies (k : Link) (n : Trunk) (copy : CaptureRecord) : Replies k (k.handCapture n copy) := by
  unfold Link.handCapture
  split
  · split
    · split <;> exact Replies.refl k
    all_goals exact Replies.refl k
  · exact Replies.refl k

/-! ### What an operation keeps -/

/-- Queues within their limit stay so. -/
structure StaysFit (s t : State) : Prop where
  fits : QueuesFit s → QueuesFit t

theorem StaysFit.refl (s : State) : StaysFit s s := ⟨fun h => h⟩

theorem StaysFit.trans {s t u : State} (h : StaysFit s t) (g : StaysFit t u) : StaysFit s u := ⟨g.fits ∘ h.fits⟩

/-- Both links stand. -/
theorem staysFit_of_same {s t : State} (linkA : t.linkA = s.linkA) (linkB : t.linkB = s.linkB) : StaysFit s t := by
  refine ⟨fun h => ?_⟩
  unfold QueuesFit
  rw [linkA, linkB]
  exact h

theorem raise_fits (kind : EventKind) (subject : Subject) (detail : Word16) (s : State) :
    StaysFit s (raise kind subject detail s) := ⟨fun h => ⟨offer_fits _ _ h.1, offer_fits _ _ h.2⟩⟩

theorem setCand_fits (c : Cand) (x : Runtime) (s : State) : StaysFit s (s.setCand c x) := staysFit_of_same rfl rfl
theorem setSel_fits (x : Selector) (s : State) : StaysFit s (s.setSel x) := staysFit_of_same rfl rfl
theorem setSynth_fits (y : Synth) (s : State) : StaysFit s (s.setSynth y) := staysFit_of_same rfl rfl
theorem setFramer_fits (n : Trunk) (x : Framer) (s : State) : StaysFit s (s.setFramer n x) := staysFit_of_same rfl rfl
theorem setStore_fits (n : Trunk) (x : Store) (s : State) : StaysFit s (s.setStore n x) := staysFit_of_same rfl rfl

theorem setLink_fits {s : State} (l : LinkId) {k : Link} (link : (s.link l).queueFits → k.queueFits) :
    StaysFit s (s.setLink l k) := by
  cases l with
  | a => exact ⟨fun h => ⟨link h.1, h.2⟩⟩
  | b => exact ⟨fun h => ⟨h.1, link h.2⟩⟩

theorem foldl_fits {α : Type} (f : State → α → State) (step : ∀ s x, StaysFit s (f s x)) (xs : List α) (s : State) :
    StaysFit s (xs.foldl f s) := foldl_reach StaysFit StaysFit.refl StaysFit.trans f step xs s

theorem forCands_fits (f : Cand → State → State) (step : ∀ c s, StaysFit s (f c s)) (s : State) :
    StaysFit s (forCands f s) := foldl_fits _ (fun s c => step c s) _ s

/-! ### The synthesizer and the selector -/

theorem recomputeQl_fits (s : State) : StaysFit s (recomputeQl s) := setSynth_fits ..

theorem enterSynth_fits (new : SynthState) (s : State) : StaysFit s (enterSynth new s) := by
  unfold enterSynth
  refine StaysFit.trans ?_ (recomputeQl_fits _)
  split
  · exact setSynth_fits ..
  · exact (setSynth_fits ..).trans (raise_fits ..)

theorem loseSelection_fits (s : State) : StaysFit s (loseSelection s) := by
  unfold loseSelection
  split
  · exact StaysFit.refl s
  · exact StaysFit.refl s
  · exact (setSynth_fits ..).trans (enterSynth_fits ..)
  · exact (setSynth_fits ..).trans (enterSynth_fits ..)

theorem followSelection_fits (s : State) : StaysFit s (followSelection s) := by
  unfold followSelection
  split
  · exact (setSynth_fits ..).trans (enterSynth_fits ..)
  · exact loseSelection_fits s

theorem dropForcedIf_fits (p : Cand → Bool) (cause : DropCause) (s : State) : StaysFit s (dropForcedIf p cause s) := by
  unfold dropForcedIf
  split
  · exact (setSel_fits ..).trans (raise_fits ..)
  · exact StaysFit.refl s

theorem dropManualIf_fits (p : Cand → Bool) (cause : DropCause) (s : State) : StaysFit s (dropManualIf p cause s) := by
  unfold dropManualIf
  split
  · exact (setSel_fits ..).trans (raise_fits ..)
  · exact StaysFit.refl s

theorem select_fits (reason : Nat) (subject : Subject) (new : Option Cand) (s : State) :
    StaysFit s (select reason subject new s) := by
  unfold select
  dsimp only
  split
  · exact StaysFit.refl s
  · exact (setSel_fits ..).trans ((raise_fits ..).trans (followSelection_fits _))

theorem evaluate_fits (why : EvalCause) (ret : Option Cand) (s : State) : StaysFit s (evaluate why ret s) :=
  (dropManualIf_fits ..).trans (select_fits ..)

/-! ### Qualification and the monitors -/

theorem setLoop_fits (c : Cand) (v : Bool) (s : State) : StaysFit s (setLoop c v s) := setCand_fits ..

theorem setClass_fits (c : Cand) (new : Fin 8) (s : State) : StaysFit s (setClass c new s) := by
  unfold setClass
  dsimp only
  split
  · exact StaysFit.refl s
  · exact (setCand_fits ..).trans (raise_fits ..)

theorem tellLoss_fits (c : Cand) (s : State) : StaysFit s (tellLoss c s) := by
  unfold tellLoss
  split
  · exact StaysFit.refl s
  · exact (setCand_fits ..).trans (raise_fits ..)

theorem grade_fits (c : Cand) (s : State) : StaysFit s (grade c s) := by
  unfold grade
  split
  · exact (setLoop_fits ..).trans (setClass_fits ..)
  · split
    · dsimp only
      refine StaysFit.trans ?_ (setClass_fits ..)
      split
      · exact setLoop_fits ..
      · exact (setLoop_fits ..).trans (raise_fits ..)
    · exact (setLoop_fits ..).trans (setClass_fits ..)

theorem gradeCandidate_fits (c : Cand) (s : State) : StaysFit s (gradeCandidate c s) := by
  unfold gradeCandidate
  split
  · exact (tellLoss_fits ..).trans (grade_fits ..)
  · exact StaysFit.refl s

theorem classEvaluation_fits (s : State) : StaysFit s (classEvaluation s) :=
  (forCands_fits _ gradeCandidate_fits s).trans (evaluate_fits ..)

theorem loseClass_fits (c : Cand) (s : State) : StaysFit s (loseClass c s) := by
  unfold loseClass
  dsimp only
  split
  · exact setCand_fits ..
  · exact setClass_fits ..

theorem loseActivity_fits (c : Cand) (s : State) : StaysFit s (loseActivity c s) := by
  have lost := (setLoop_fits c false s).trans (loseClass_fits c _)
  unfold loseActivity
  dsimp only
  split
  · exact lost.trans (evaluate_fits ..)
  · exact lost

theorem goInactive_fits (c : Cand) (s : State) : StaysFit s (goInactive c s) := by
  unfold goInactive
  dsimp only
  split
  · exact (setCand_fits ..).trans ((raise_fits ..).trans (loseActivity_fits ..))
  · exact StaysFit.refl s

theorem tellMonitors_fits (n : Trunk) (s : State) : StaysFit s (tellMonitors n s) :=
  forCands_fits _ (fun c s => by
    split
    · exact goInactive_fits ..
    · exact StaysFit.refl s) s

theorem expireActivity_fits (c : Cand) (s : State) : StaysFit s (expireActivity c s) := by
  unfold expireActivity
  split
  · exact goInactive_fits ..
  · exact StaysFit.refl s

theorem takeMarker_fits (c : Cand) (stamp : Tick) (s : State) : StaysFit s (takeMarker c stamp s) := by
  unfold takeMarker
  dsimp only
  split
  · exact StaysFit.refl s
  · exact (setCand_fits ..).trans (raise_fits ..)
  all_goals exact setCand_fits ..

theorem raiseMarker_fits (src : Source) (stamp : Tick) (s : State) : StaysFit s (raiseMarker src stamp s) :=
  forCands_fits _ (fun c s => by
    split
    · exact takeMarker_fits ..
    · exact StaysFit.refl s) s

theorem stationEdge_fits (i : Station) (s : State) : StaysFit s (stationEdge i s) := by
  have level : ∀ x, StaysFit s (s.setStation i x) := fun x =>
    staysFit_of_same (State.setStation_linkA ..) (State.setStation_linkB ..)
  unfold stationEdge
  dsimp only
  split
  · exact StaysFit.refl s
  · exact (level _).trans (raiseMarker_fits ..)

theorem endWindow_fits (c : Cand) (s : State) : StaysFit s (endWindow c s) := by
  unfold endWindow
  split
  · dsimp only
    split
    · exact setCand_fits ..
    · exact (setCand_fits ..).trans (raise_fits ..)
  · exact StaysFit.refl s

theorem resetCandidate_fits (old new : CandConfig) (c : Cand) (s : State) :
    StaysFit s (resetCandidate old new c s) := by
  have restarted : ∀ u : State, StaysFit u (restartCandidate new.enabled c u) := fun u =>
    (setCand_fits ..).trans (raise_fits ..)
  unfold resetCandidate
  split
  · exact StaysFit.refl s
  · refine StaysFit.trans ?_ (restarted _)
    split
    · exact StaysFit.refl s
    · exact tellLoss_fits ..

theorem countWaitsAt_fits (e : Epoch) (s : State) : StaysFit s (countWaitsAt e s) :=
  forCands_fits _ (fun _ _ => setCand_fits ..) s

theorem endWait_fits (c : Cand) (s : State) : StaysFit s (endWait c s) := by
  unfold endWait
  split
  · exact countWaitsAt_fits ..
  · exact StaysFit.refl s

/-! ### Acquire timeouts and the phase sample -/

theorem timeOut_fits (c : Cand) (s : State) : StaysFit s (timeOut c s) := by
  have raised := raise_fits .acquireTimeout (.candidate c) (BitVec.ofNat 16 (bump 65535 s.synth.timeoutCount)) s
  exact raised.trans (staysFit_of_same rfl rfl)

theorem takeTimeout_fits (c : Cand) (s : State) : StaysFit s (takeTimeout c s) := by
  have failed := setCand_fits c { s.cands[c] with lockFail := true } s
  unfold takeTimeout
  dsimp only
  split
  · exact failed
  · refine StaysFit.trans ?_ (evaluate_fits ..)
    split
    · exact failed.trans (setCand_fits ..)
    · exact failed

theorem takeHandedTimeout_fits (s : State) : StaysFit s (takeHandedTimeout s) := by
  unfold takeHandedTimeout
  split
  · exact StaysFit.refl s
  · exact (setSel_fits ..).trans (takeTimeout_fits ..)

theorem acquireTimeoutStep_fits (s : State) : StaysFit s (acquireTimeoutStep s) := by
  have reached : StaysFit s (timeOutIfReached s) := by
    unfold timeOutIfReached
    split
    · split
      · exact timeOut_fits ..
      · exact StaysFit.refl s
    · exact StaysFit.refl s
  exact reached.trans (takeHandedTimeout_fits _)

theorem countAcquire_fits (c : Cand) (s : State) : StaysFit s (countAcquire c s) := by
  unfold countAcquire
  dsimp only
  generalize (if s.synth.lastD.natAbs ≤ 4 then bump 8 s.synth.lockCount else 0) = lock
  split
  · exact (setSynth_fits ..).trans ((setSynth_fits ..).trans ((enterSynth_fits ..).trans (setCand_fits ..)))
  · split
    · exact (setSynth_fits ..).trans (timeOut_fits ..)
    · exact setSynth_fits ..

theorem countLocked_fits (c : Cand) (s : State) : StaysFit s (countLocked c s) := by
  unfold countLocked
  dsimp only
  generalize (if 32 < s.synth.lastD.natAbs then bump 2 s.synth.lossCount else 0) = loss
  split
  · exact (setSynth_fits ..).trans (enterSynth_fits ..)
  · unfold recordHistory
    dsimp only
    split
    · exact (setSynth_fits ..).trans ((setSynth_fits ..).trans (raise_fits ..))
    · exact (setSynth_fits ..).trans (setSynth_fits ..)

theorem phaseSample_fits (s : State) : StaysFit s (phaseSample s) := by
  unfold phaseSample
  split
  · exact StaysFit.refl s
  · split
    · exact StaysFit.refl s
    · dsimp only
      split
      · exact StaysFit.trans (setSynth_fits _ s) (countAcquire_fits ..)
      · exact StaysFit.trans (setSynth_fits _ s) (countLocked_fits ..)
      · exact StaysFit.refl s
      · exact StaysFit.refl s

/-! ### The stores and the framers -/

theorem slip_fits (n : Trunk) (kind : SlipKind) (held : Nat) (s : State) : StaysFit s (slip n kind held s) := by
  have slipped : ∀ x d, StaysFit s (raise .slip (.trunk n) d (s.setStore n x)) := fun x d =>
    (setStore_fits ..).trans (raise_fits ..)
  unfold slip
  dsimp only
  split
  · exact (slipped ..).trans (raise_fits ..)
  · exact slipped ..

theorem storeArrival_fits (n : Trunk) (r : FrameRecord) (s : State) : StaysFit s (storeArrival n r s) := by
  unfold storeArrival
  dsimp only
  split
  · exact StaysFit.refl s
  · exact setStore_fits ..
  · split
    · exact setStore_fits ..
    · exact (setStore_fits ..).trans (slip_fits ..)

theorem endStoreWindow_fits (n : Trunk) (e : Epoch) (s : State) : StaysFit s (endStoreWindow n e s) := by
  unfold endStoreWindow
  dsimp only
  split
  · split
    · exact (setStore_fits ..).trans (raise_fits ..)
    · exact setStore_fits ..
  · exact setStore_fits ..

/-- The epoch under which a block works is set and put back. -/
theorem atEpoch_fits (e : Epoch) (f : State → State) (step : ∀ s, StaysFit s (f s)) (s : State) :
    StaysFit s (atEpoch e f s) :=
  ⟨fun h => (step { s with gen := { s.gen with epoch := e } }).fits h⟩

theorem endSlipWindow_fits (n : Trunk) (s : State) : StaysFit s (endSlipWindow n s) := by
  unfold endSlipWindow
  split
  · exact StaysFit.refl s
  · exact atEpoch_fits _ _ (endStoreWindow_fits n _) s

theorem raiseAlarmFrom_fits (n : Trunk) (before : Nat) (s : State) : StaysFit s (raiseAlarmFrom n before s) := by
  unfold raiseAlarmFrom
  dsimp only
  split
  · exact StaysFit.refl s
  · exact raise_fits ..

theorem leaveAligned_fits (n : Trunk) (new : FramerState) (before : Option Nat) (s : State) :
    StaysFit s (leaveAligned n new before s) := by
  have left : ∀ x, StaysFit s (raiseTrunkState n s.framers[n].state new
      ((tellMonitors n (s.setStore n s.stores[n].flush)).setFramer n x)) := fun x =>
    (setStore_fits ..).trans ((tellMonitors_fits ..).trans ((setFramer_fits ..).trans (raise_fits ..)))
  unfold leaveAligned
  dsimp only
  split
  · exact (left _).trans (raiseAlarmFrom_fits ..)
  · exact left _

theorem completeFrame_fits (n : Trunk) (a : Alignment) (octets : List Octet) (before : Nat) (s : State) :
    StaysFit s (completeFrame n a octets before s) := by
  have done : ∀ x r F, StaysFit s (recomputeQl ((storeArrival n r (s.setStore n x)).setFramer n F)) := fun x r F =>
    (setStore_fits ..).trans ((storeArrival_fits ..).trans ((setFramer_fits ..).trans (recomputeQl_fits _)))
  unfold completeFrame
  dsimp only
  split
  · exact (done ..).trans (leaveAligned_fits ..)
  · exact (done ..).trans (raiseAlarmFrom_fits ..)

theorem joinFrame_fits (n : Trunk) (o : Octet) (s : State) : StaysFit s (joinFrame n o s) := setStore_fits ..

theorem alignedOctet_fits (n : Trunk) (a : Alignment) (o : Octet) (before : Nat) (s : State) :
    StaysFit s (alignedOctet n a o before s) := by
  unfold alignedOctet
  dsimp only
  split
  · exact (setFramer_fits ..).trans (joinFrame_fits ..)
  · exact (setFramer_fits ..).trans ((joinFrame_fits ..).trans (raiseMarker_fits ..))
  · split
    · exact joinFrame_fits ..
    · exact completeFrame_fits ..

theorem enterAligned_fits (n : Trunk) (f : Fin 16) (o : Octet) (s : State) : StaysFit s (enterAligned n f o s) :=
  (setFramer_fits ..).trans ((raise_fits ..).trans ((setStore_fits ..).trans (raiseMarker_fits ..)))

theorem confirmOctet_fits (n : Trunk) (f : Fin 16) (retained : List Octet) (o : Octet) (s : State) :
    StaysFit s (confirmOctet n f retained o s) := by
  unfold confirmOctet
  dsimp only
  split
  · split
    · exact setFramer_fits ..
    · exact enterAligned_fits ..
  · exact setFramer_fits ..

theorem handleOctet_fits (n : Trunk) (o : Octet) (before : Nat) (s : State) :
    StaysFit s (handleOctet n o before s) := by
  unfold handleOctet
  dsimp only
  split
  · exact StaysFit.refl s
  · exact (setFramer_fits ..).trans (raise_fits ..)
  · exact setFramer_fits ..
  · exact confirmOctet_fits ..
  · exact alignedOctet_fits ..

theorem octetArrival_fits (n : Trunk) (o : Octet) (s : State) : StaysFit s (octetArrival n o s) := by
  unfold octetArrival
  dsimp only
  split
  · exact StaysFit.refl s
  · split
    · exact (setFramer_fits ..).trans (handleOctet_fits ..)
    · exact (setFramer_fits ..).trans ((raiseAlarmFrom_fits ..).trans (handleOctet_fits ..))

theorem expireSignal_fits (n : Trunk) (s : State) : StaysFit s (expireSignal n s) := by
  have lost : ∀ x y a b, StaysFit s
      (raiseAlarmFrom n a (raiseTrunkState n b .noSignal ((s.setFramer n x).setFramer n y))) := fun x y a b =>
    (setFramer_fits ..).trans ((setFramer_fits ..).trans ((raise_fits ..).trans (raiseAlarmFrom_fits ..)))
  unfold expireSignal
  split
  · dsimp only
    split
    · exact StaysFit.refl s
    · exact (setFramer_fits ..).trans (raiseAlarmFrom_fits ..)
    · exact lost ..
    · exact lost ..
    · exact (setFramer_fits ..).trans (leaveAligned_fits ..)
  · exact StaysFit.refl s

theorem enableTrunk_fits (n : Trunk) (began : Bool) (s : State) : StaysFit s (enableTrunk n began s) :=
  (setFramer_fits ..).trans ((setStore_fits ..).trans (raise_fits ..))

theorem disableTrunk_fits (n : Trunk) (s : State) : StaysFit s (disableTrunk n s) := by
  have left : StaysFit s (if s.framers[n].state.isAligned then leaveAligned n .off none s
      else raiseTrunkState n s.framers[n].state .off s) := by
    split
    · exact leaveAligned_fits ..
    · exact raise_fits ..
  unfold disableTrunk
  dsimp only
  generalize (if s.framers[n].state.isAligned then leaveAligned n .off none s
      else raiseTrunkState n s.framers[n].state .off s) = u at left ⊢
  refine left.trans ((setFramer_fits n { Framer.reset with alignErrors := u.framers[n].alignErrors } u).trans
    ((raiseAlarmFrom_fits n s.framers[n].alarms _).trans ?_))
  split
  · exact (setStore_fits ..).trans (raise_fits ..)
  · exact setStore_fits ..

theorem restartTrunk_fits (n : Trunk) (s : State) : StaysFit s (restartTrunk n s) := by
  unfold restartTrunk
  dsimp only
  split
  · exact StaysFit.refl s
  · exact StaysFit.refl s
  · exact setFramer_fits ..
  · exact setFramer_fits ..
  · exact leaveAligned_fits ..

/-! ### A frame start -/

/-- A read hands its frame to a capture outside the queues (R26, R44). -/
theorem readStore_fits (n : Trunk) (s : State) : StaysFit s (readStore n s) := by
  have read : StaysFit s (match s.stores[n].delivers with
      | .fresh r => s.setStore n (s.stores[n].deliverFresh r s.gen.tick)
      | .repeated _ => slip n .repeated 0 s
      | .idle => s) := by
    split
    · exact setStore_fits ..
    · exact slip_fits ..
    · exact StaysFit.refl s
  exact read.trans ⟨fun h => ⟨(handCapture_replies ..).queueFits h.1, (handCapture_replies ..).queueFits h.2⟩⟩

theorem frameUnit_fits (u : FrameUnit) (s : State) : StaysFit s (u.take s) := by
  cases u with
  | length | frameQl => exact staysFit_of_same rfl rfl
  | classes => exact classEvaluation_fits s
  | waits => exact countWaitsAt_fits s.gen.epoch s
  | timeout => exact takeHandedTimeout_fits s
  | sample => exact phaseSample_fits s
  | read n => exact readStore_fits n s

theorem outputsFixed_fits (s : State) : StaysFit s (outputsFixed s) := by
  rw [(outputsFixed_shape s).1]
  exact staysFit_of_same rfl rfl

theorem startFrame_fits (ord : Nat) (s : State) : StaysFit s (startFrame ord s) := by
  have begun : StaysFit s (advanceGenerator s) := staysFit_of_same rfl rfl
  rw [startFrame_eq]
  exact begun.trans ((foldl_fits _ (fun s u => frameUnit_fits u s) _ _).trans (outputsFixed_fits _))

/-! ### An apply -/

theorem applyTrunk_fits (old : Settings) (n : Trunk) (s : State) : StaysFit s (applyTrunk old n s) := by
  unfold applyTrunk
  split
  · exact StaysFit.refl s
  · split
    · exact enableTrunk_fits ..
    · exact disableTrunk_fits ..

theorem applyUnit_fits (old : Settings) (u : ApplyUnit) (s : State) : StaysFit s (u.take old s) := by
  cases u with
  | trunk n => exact applyTrunk_fits old n s
  | candidate c => exact resetCandidate_fits ..

theorem applyUnder_fits (ord : Nat) (old : Settings) (s : State) : StaysFit s (applyUnder ord old s) := by
  have policy : StaysFit s { s with cfg := s.cfg.withPolicy old } := staysFit_of_same rfl rfl
  have units := policy.trans (foldl_fits (fun s (u : ApplyUnit) => u.take old s) (fun s u => applyUnit_fits old u s)
    (inOrder ord applyUnits) _)
  exact units.trans (staysFit_of_same rfl rfl)

theorem applySynth_fits (old : Settings) (s : State) : StaysFit s (applySynth old s) := by
  unfold applySynth
  refine StaysFit.trans ?_ (recomputeQl_fits _)
  split
  · exact setSynth_fits ..
  · exact StaysFit.refl s

theorem applySelector_fits (l : LinkId) (s : State) : StaysFit s (applySelector l s) :=
  (dropForcedIf_fits ..).trans ((dropManualIf_fits ..).trans (evaluate_fits ..))

theorem applyBlocks_fits (ord : Nat) (old : Settings) (started : Bool) (l : LinkId) (s : State) :
    StaysFit s (applyBlocks ord old started l s) := by
  have lanes : ∀ u, StaysFit u (bothLanes old u) := fun u => by
    rw [bothLanes_eq]
    exact staysFit_of_same rfl rfl
  have units := applyUnder_fits ord old s
  rw [applyBlocks_eq]
  refine StaysFit.trans ?_ ((applySynth_fits ..).trans (applySelector_fits ..))
  split
  · exact units.trans (lanes _)
  · exact units

theorem installConfig_fits (l : LinkId) (s : State) : StaysFit s (installConfig l s) := by
  have installed : StaysFit s { s with cfg := mergedConfig s l, generation := s.generation + 1 } :=
    staysFit_of_same rfl rfl
  exact installed.trans (raise_fits ..)

/-- A link written with its queue and its flag as they were: its staging area, its answers, its reception. -/
theorem reply_fits {s : State} (l : LinkId) {k : Link} (replies : Replies (s.link l) k) : StaysFit s (s.setLink l k) :=
  setLink_fits l replies.queueFits

theorem finishCommit_fits (l : LinkId) (s : State) : StaysFit s (finishCommit l s) := by
  have taken : ∀ u : State, StaysFit u { u with commit := none, applied := true } := fun _ => staysFit_of_same rfl rfl
  have emptied := (setLink_fits (s := s) (k := { s.link l with staging := [] }) l fun h => h).trans (taken _)
  unfold finishCommit
  dsimp only
  split
  · exact emptied.trans (reply_fits l (send_replies ..))
  · exact emptied

theorem applyCommit_fits (ord : Nat) (s : State) : StaysFit s (applyCommit ord s) := by
  unfold applyCommit
  split
  · exact StaysFit.refl s
  · exact (atEpoch_fits _ _ (fun u => (installConfig_fits _ u).trans (applyBlocks_fits ..)) s).trans
      (finishCommit_fits ..)

/-! ### SWITCH actions -/

theorem onCandidate_fits (operand : Octet) (f : Cand → State → Status × State) (s : State)
    (step : ∀ c, StaysFit s (f c s).2) : StaysFit s (onCandidate operand f s).2 := by
  unfold onCandidate
  split
  · exact step _
  · exact StaysFit.refl s

/-- A SWITCH action is refused, or changes a request, a lockout or a wait and evaluates (6.4). -/
theorem switchAction_fits (l : LinkId) (action operand option : Octet) (s : State) :
    StaysFit s (switchAction l action operand option s).2 := by
  have placed : ∀ x why ret, StaysFit s (evaluate why ret (s.setSel x)) := fun x why ret =>
    (setSel_fits x s).trans (evaluate_fits ..)
  unfold switchAction
  split
  · exact onCandidate_fits _ _ _ fun c => (setSel_fits ..).trans ((dropForcedIf_fits ..).trans
      ((dropManualIf_fits ..).trans (evaluate_fits ..)))
  · refine onCandidate_fits _ _ _ fun c => ?_
    unfold unlockAction
    split
    · exact placed ..
    · exact StaysFit.refl s
  · refine onCandidate_fits _ _ _ fun c => ?_
    unfold forceAction
    split
    · exact StaysFit.refl s
    · split
      · exact StaysFit.refl s
      · exact placed ..
  · exact placed ..
  · refine onCandidate_fits _ _ _ fun c => ?_
    unfold manualAction
    split
    · exact StaysFit.refl s
    · split
      · exact StaysFit.refl s
      · split
        · exact StaysFit.refl s
        · exact placed ..
  · split
    · unfold releaseForcedAction
      split
      · exact StaysFit.refl s
      · exact placed ..
    · split
      · unfold releaseManualAction
        split
        · exact StaysFit.refl s
        · exact placed ..
      · exact StaysFit.refl s
  · refine onCandidate_fits _ _ _ fun c => ?_
    unfold clearWaitAction
    split
    · exact (setCand_fits ..).trans (evaluate_fits ..)
    · exact StaysFit.refl s
  · exact StaysFit.refl s

/-! ### Resets, reads and counters -/

theorem afterRead_fits (l : LinkId) (it : StatusItem) (s : State) : StaysFit s (afterRead l it s) := by
  unfold afterRead
  split
  · exact setStore_fits ..
  all_goals exact StaysFit.refl s

theorem clearCounters_fits (s : State) : StaysFit s (clearCounters s) := by
  rw [clearCounters_shape]
  exact staysFit_of_same rfl rfl

theorem restartLink_fits (l : LinkId) (s : State) : StaysFit s (restartLink l s) := by
  have abandoned : StaysFit s (clearWanders l { s with commit := if commitFrom s l then none else s.commit }) := by
    unfold clearWanders
    exact staysFit_of_same rfl rfl
  exact abandoned.trans (setLink_fits l fun _ => Link.queueFits_of_empty rfl rfl)

/-- Each link is emptied before the RESET event is offered to it (R163, R164). -/
theorem warmReset_fits (l : LinkId) (s : State) : QueuesFit (warmReset l s) := by
  refine (queuesFit_iff _).mpr fun m => ?_
  rw [warmReset_link]
  exact offer_fits _ _ (Link.queueFits_of_empty rfl rfl)

/-- A release leaves its one RESET event in each queue (R171). -/
theorem releasePart_fits (cause : Octet) (s : State) : QueuesFit (releasePart cause s) := by
  have fresh : (Link.reset cause).queueFits := ⟨Nat.one_le_ofNat, nofun⟩
  exact ⟨fresh, fresh⟩

/-! ### Every move -/

/-- Each move keeps the queues within their limit (R167). -/
theorem Move.staysFit {s t : State} (move : Move s t) : StaysFit s t := by
  cases move with
  | reply replies => exact reply_fits _ replies
  | stage | discard => exact setLink_fits _ fun fits => fits
  | deliver _ queue overflow => exact setLink_fits _ fun fits => fits.deliver queue overflow
  | commit | cause | queue | hold | tick => exact staysFit_of_same rfl rfl
  | release => exact ⟨fun _ => releasePart_fits ..⟩
  | octet => exact octetArrival_fits ..
  | signal => exact expireSignal_fits ..
  | frame => exact startFrame_fits ..
  | windowEnd => exact endWindow_fits ..
  | wait => exact endWait_fits ..
  | timeout => exact acquireTimeoutStep_fits s
  | slipWindow => exact endSlipWindow_fits ..
  | edge => exact stationEdge_fits ..
  | activity => exact expireActivity_fits ..
  | apply => exact applyCommit_fits ..
  | switch => exact switchAction_fits ..
  | restart => exact restartTrunk_fits ..
  | recenter => exact setStore_fits ..
  | counters => exact (clearCounters_fits s).trans (raise_fits ..)
  | read => exact afterRead_fits ..
  | resetLink => exact restartLink_fits ..
  | resetPart => exact ⟨fun _ => warmReset_fits ..⟩

/-- Settles O57: every move keeps the queues within their limit, so every step does. -/
theorem stepsKeepTheQueuesFit : Obligations.StepsKeepTheQueuesFit := by
  unfold Obligations.StepsKeepTheQueuesFit
  exact fun _ _ h e => (step_moves e).keep (fun _ _ move => move.staysFit.fits) h

end Sys2Proof.Machine
end

section
/-! OBLIGATION. Events, EVENTS and MASK (R166, R167, R168, R169). -/

namespace Sys2Proof.Machine

/-! ### An event at a link -/

/-- An event at one link, by its mask and the room in its queue (R167). -/
theorem offer_eq (k : Link) (e : Event) :
    k.offer e = if k.takes e.kind = false then k
      else if k.queue.length < 32 then { k with queue := k.queue ++ [e] }
      else { k with overflow := true } := by
  unfold Link.offer
  cases k.takes e.kind <;> rfl

/-- An event record in the words of the claims (R166). -/
theorem eventOctets_eq (e : Event) : e.octets = Claim.eventOctets e := by
  have fields : e.octets = [e.kind.code, e.subject.octet] ++ be32 e.epoch ++ be16 e.detail := rfl
  rw [fields, be32_toNat, be16_toNat]
  refine congrArg (· ++ Claim.two e.detail.toNat) (congrArg (· ++ Claim.four e.epoch.toNat) (congrArg₂ List.cons ?_ ?_))
  · cases e.kind <;> rfl
  · cases e.subject with
    | link l => exact linkOctet_eq l
    | none | trunk | candidate => rfl

/-! ### EVENTS (R168) -/

theorem exec_events {l : LinkId} {tag x : Octet} {check : Word16} {s : State} (ready : Ready s l)
    (right : check = checkFor 9 tag [x]) :
    exec (.events l tag x check) s
      = .next (handleEvents l { kind := 9, tag := tag, body := [x], check := check } x s) :=
  request_ready l 9 tag [x] check s ready right

theorem handleEvents_outside {l : LinkId} {q : Request} {x : Octet} {s : State} (h : x.toNat = 0 ∨ 8 < x.toNat) :
    handleEvents l q x s = Claim.answered l q.kind q.tag .badValue [] s := by
  unfold handleEvents
  rw [if_neg (by omega), answer_eq]

theorem clearDrained_eq (k : Link) :
    clearDrained k = { k with overflow := if k.queue.isEmpty then false else k.overflow } := by
  unfold clearDrained
  split <;> rfl

/-- An answer leaves the queue of its link as it was. -/
theorem answered_replies (l : LinkId) (kind tag : Octet) (status : Status) (body : List Octet) (s : State) :
    Replies (s.link l) ((Claim.answered l kind tag status body s).link l) := by
  unfold Claim.answered
  rw [State.link_setLink, ← send_eq_sent]
  exact send_replies ..

/-- The oldest events are removed and returned, and the overflow flag goes with the last of them after the response. -/
theorem handleEvents_inside {l : LinkId} {q : Request} {x : Octet} {s : State} (least : 1 ≤ x.toNat)
    (most : x.toNat ≤ 8) :
    let k := s.link l
    let u := Claim.answered l q.kind q.tag .ok ((k.queue.take x.toNat).flatMap Claim.eventOctets)
      (s.setLink l { k with queue := k.queue.drop x.toNat })
    handleEvents l q x s
      = u.setLink l { u.link l with overflow := if k.queue.length ≤ x.toNat then false else k.overflow } := by
  intro k u
  have records : Event.octets = Claim.eventOctets := funext eventOctets_eq
  have taken := answered_replies l q.kind q.tag .ok ((k.queue.take x.toNat).flatMap Claim.eventOctets)
    (s.setLink l { k with queue := k.queue.drop x.toNat })
  rw [State.link_setLink] at taken
  obtain ⟨-, queue, overflow⟩ := taken
  unfold handleEvents
  rw [if_pos ⟨least, most⟩]
  dsimp only
  rw [answer_eq, records, clearDrained_eq, queue, overflow]
  simp only [List.isEmpty_iff, List.drop_eq_nil_iff]
  rfl

/-! ### MASK (R169) -/

theorem exec_mask {l : LinkId} {tag x : Octet} {check : Word16} {s : State} (ready : Ready s l)
    (right : check = checkFor 11 tag [x]) :
    exec (.mask l tag x check) s
      = .next (handleMask l { kind := 11, tag := tag, body := [x], check := check } x s) :=
  request_ready l 11 tag [x] check s ready right

/-- Bits 6 and 7 of an octet are clear exactly below 64. -/
theorem and_highBits_eq_zero_iff : ∀ m : Octet, m &&& 0xC0 = 0 ↔ m.toNat < 64 := by decide

theorem handleMask_eq (l : LinkId) (q : Request) (m : Octet) (s : State) :
    handleMask l q m s
      = if m.toNat < 64 then Claim.answered l q.kind q.tag .ok [m] (s.setLink l { s.link l with mask := m })
        else Claim.answered l q.kind q.tag .badValue [] s := by
  unfold handleMask
  simp only [ne_eq, and_highBits_eq_zero_iff, ite_not, answer_eq]

/-- Settles O53: an event at each link, and the handling of EVENTS and MASK. -/
theorem eventsAndMasks : Obligations.EventsAndMasks := by
  unfold Obligations.EventsAndMasks
  refine ⟨fun kind subject detail s l => ?_, fun l tag x check s ready => ⟨fun right => ⟨fun outside => ?_,
    fun least most => ?_⟩, fun right => ?_⟩⟩
  · dsimp only
    rw [raise_link, offer_eq]
    cases kind <;> rfl
  · rw [exec_events ready right, handleEvents_outside outside]
  · rw [exec_events ready right]
    exact congrArg _ (handleEvents_inside least most)
  · rw [exec_mask ready right, handleMask_eq]

end Sys2Proof.Machine
end

section
/-! OBLIGATIONS. The start of the part from its defaults, and the invariants at reset (R170, R171). -/

namespace Sys2Proof.Machine

/-! ### O7: what a release leaves (R171) -/

section released
variable (cause : Octet) (s : State)

/-- Both links are as new, each with the RESET event of the release. -/
theorem releasePart_link (l : LinkId) : (releasePart cause s).link l = Link.reset cause := by cases l <;> rfl

theorem releasePart_attention (l : LinkId) : attention (releasePart cause s) l = true := by
  unfold attention
  rw [releasePart_link]
  rfl

theorem releasePart_framer (n : Trunk) : (releasePart cause s).framers[n] = Framer.reset := by
  simp [releasePart, State.released]

theorem releasePart_store (n : Trunk) : (releasePart cause s).stores[n] = Store.reset := by
  simp [releasePart, State.released]

theorem releasePart_cand (c : Cand) : (releasePart cause s).cands[c] = Claim.renewed false := by
  simp [releasePart, State.released, Runtime.reset, Claim.renewed]

theorem releasePart_cfg : (releasePart cause s).cfg = Settings.reset := rfl

/-- A lane of either plane carries the idle frame of its trunk as frame 0 (R63). -/
theorem releasePart_lane (p : Plane) (i : Lane) :
    (((releasePart cause s).lanes p)[i]).octets
      = 0xB4 :: 0xA0 :: 0x4E :: BitVec.ofNat 8 i.val :: (Vector.replicate 32 0xFE#8).toList := by
  have lane : ((releasePart cause s).lanes p)[i] = LaneFrame.reset i := by
    cases p <;> simp [releasePart, State.released, State.lanes]
  rw [lane]
  rfl

end released

/-- Settles O7: the released part, block by block. -/
theorem releaseStartsFromDefaults : Obligations.ReleaseStartsFromDefaults := by
  unfold Obligations.ReleaseStartsFromDefaults
  intro s c cause release
  have released : exec c s = .next (releasePart cause s) := by
    simp only [List.mem_cons, Prod.mk.injEq, List.not_mem_nil, or_false] at release
    rcases release with ⟨rfl, rfl⟩ | ⟨rfl, rfl⟩ <;> rfl
  refine ⟨releasePart cause s, released, rfl, rfl, rfl, rfl, rfl, rfl, rfl, rfl, fun l => ?_, fun n => ?_, fun i => ?_,
    rfl, rfl, fun d => ?_, rfl, rfl, rfl, fun r => ?_, fun k => ?_, rfl, rfl, rfl, rfl, rfl, fun j => ?_, rfl⟩
  · rw [releasePart_link, releasePart_attention]
    exact ⟨rfl, rfl, rfl, rfl, rfl, rfl, rfl, rfl, rfl, rfl, rfl, rfl⟩
  · rw [releasePart_framer, releasePart_store, releasePart_cfg]
    refine ⟨rfl, rfl, rfl, rfl, rfl, rfl, rfl, rfl, rfl, rfl, rfl, rfl, rfl, rfl, rfl, rfl, rfl, rfl, rfl, ?_⟩
    simp [Settings.reset]
  · rw [releasePart_cfg]
    exact ⟨by simp [Settings.reset], by simp [Settings.reset], fun p => releasePart_lane cause s p i⟩
  · rw [releasePart_cand, releasePart_cfg]
    exact ⟨rfl, by simp [Settings.reset], by simp [releasePart, State.released, Selector.reset]⟩
  · rw [releasePart_cfg]
    simp [Settings.reset, Rule.reset]
  · rw [releasePart_cfg]
    simp [Settings.reset]
  · rw [releasePart_cfg]
    simp [Settings.reset]

/-! ### O8: the state after reset -/

theorem releasePart_reset : releasePart 1 State.reset = State.reset := rfl

/-- A released part runs, no monitor is active, and no capture is handed over. -/
theorem releasePart_takes (cause : Octet) (s : State) : Takes (releasePart cause s) := by
  refine ⟨rfl, fun c => ?_, fun l => ?_⟩
  · unfold windowEndDue
    rw [releasePart_cand]
    rfl
  · rw [releasePart_link]
    rfl

/-- Settles O8: the state after reset is a released part, and every released part meets the invariants. -/
theorem resetStateMeetsTheInvariants : Obligations.ResetStateMeetsTheInvariants := by
  unfold Obligations.ResetStateMeetsTheInvariants
  rw [← releasePart_reset]
  exact ⟨rfl, rfl, rfl, releasePart_takes .., releasePart_fits .., releasePart_inRange .., releasePart_follows ..,
    released_sound _ _, releasePart_selector ..⟩

end Sys2Proof.Machine
end

section
/-! OBLIGATIONS. O1 and O4: a command at the front of the queue, and the completion of every command (00_scope.md 2.4). -/

namespace Sys2Proof.Machine

/-! ### O1: the front of the queue -/

theorem step_front {c : Instr} {q : List Instr} {s : State} (front : s.pending = c :: q) :
    step s = exec c { s with pending := q } := by
  unfold step
  rw [front]

/-- Settles O1: the queue of the state is c and then q. -/
theorem stepTakesTheFrontCommand : Obligations.StepTakesTheFrontCommand := by
  unfold Obligations.StepTakesTheFrontCommand
  exact fun c q s => step_front (s := { s with pending := c :: q }) rfl

/-! ### O4: the actions that only a command takes -/

theorem stationEdge_keeps (i : Station) (s : State) : Keeps s (stationEdge i s) := by
  have level : ∀ x, Keeps s (s.setStation i x) := fun x =>
    ⟨State.setStation_pending s i x, State.setStation_free s i x, State.setStation_pinHeld s i x⟩
  unfold stationEdge
  dsimp only
  split
  · exact Keeps.refl s
  · exact (level _).trans (raiseMarker_grades ..).keeps

theorem frameStartStep_keeps (ord : Nat) (s : State) : Keeps s (frameStartStep ord s) := by
  unfold frameStartStep
  split
  · exact startFrame_keeps ord s
  · exact Keeps.refl s

theorem expireReception_keeps (l : LinkId) (s : State) : Keeps s (expireReception l s) := by
  unfold expireReception
  split
  · exact setReception_keeps ..
  · exact Keeps.refl s

/-! ### O4: outcomes -/

/-- The outcome is a next state with the queue of commands and the count of draws of s. -/
def Completes (s : State) (r : Result) : Prop := ∃ t, r = .next t ∧ t.pending = s.pending ∧ t.free = s.free

theorem Keeps.completes {s t : State} (h : Keeps s t) : Completes s (.next t) := by
  obtain ⟨pending, free, -⟩ := h
  exact ⟨t, rfl, pending, free⟩

/-- A held part stays as it is; a running one acts on what it has left over and on what follows (assumptions 4 and 11). -/
theorem taken_completes {f : State → State} (keeps : ∀ s, Keeps s (f s)) (s : State) : Completes s (taken f s) := by
  unfold taken
  split
  · exact (Keeps.refl s).completes
  · exact ((runOn_keeps s).trans (keeps _)).completes

theorem takenAlone_completes {f : State → State} (keeps : ∀ s, Keeps s (f s)) (s : State) :
    Completes s (takenAlone f s) := by
  unfold takenAlone
  split
  · exact (Keeps.refl s).completes
  · exact (keeps s).completes

theorem request_completes (l : LinkId) (kind tag : Octet) (body : List Octet) (check : Word16) (s : State) :
    Completes s (request l kind tag body check s) := taken_completes (takeRequest_keeps l _) s

/-- The release of a reset starts the part anew under the queue and the draws that stood (assumptions 1 and 3). -/
theorem releasePart_completes (cause : Octet) (s : State) : Completes s (.next (releasePart cause s)) :=
  ⟨_, rfl, rfl, rfl⟩

/-- Every command completes: by what its own action keeps, or, for a reset, because it writes neither queue nor draws. -/
theorem exec_completes (c : Instr) (s : State) : Completes s (exec c s) := by
  cases c with
  | trunkOctetArrival n o => exact taken_completes (fun u => (octetArrival_works n o u).keeps) s
  | lossOfSignalExpiry n => exact taken_completes (fun u => (expireSignal_works n u).keeps) s
  | exchangeFrameStart ord => exact taken_completes (frameStartStep_keeps ord) s
  | captureCompletion l => exact takenAlone_completes (completeCapture_keeps l) s
  | waitEnd c => exact taken_completes (fun u => (endWait_grades c u).keeps) s
  | acquireTimeout => exact taken_completes (fun u => (acquireTimeoutStep_grades u).keeps) s
  | slipWindowEnd n => exact taken_completes (endSlipWindow_keeps n) s
  | stationInputEdge i => exact taken_completes (stationEdge_keeps i) s
  | windowEnd c => exact takenAlone_completes (fun u => (endWindow_grades c u).keeps) s
  | activityTimerExpiry c => exact taken_completes (fun u => (expireActivity_grades c u).keeps) s
  | commitApply ord => exact taken_completes (applyCommit_keeps ord) s
  | interOctetTimerExpiry l => exact taken_completes (expireReception_keeps l) s
  | responseSent l => exact taken_completes (f := fun u => u.setLink l (u.link l).sent) (fun u => setLink_keeps l _ u) s
  | requestLineOctetArrival l o => exact taken_completes (requestOctet_keeps l o) s
  | pinResetAssert => exact ⟨{ s with pinHeld := true }, rfl, rfl, rfl⟩
  | pinResetRelease => exact releasePart_completes 2 s
  | powerOnResetRelease => exact releasePart_completes 1 s
  | identify | read | stage | commit | discard | lockout | unlock | force | forceHoldover | manual | releaseForced
  | releaseManual | clearWait | restart | recenter | capture | events | clearCounters | clearResetCause | mask
  | resetLink | resetPart | badKindRequest => exact request_completes ..

/-- Settles O4: every command completes, whatever the state. -/
theorem everyCommandCompletes : Obligations.EveryCommandCompletes := by
  unfold Obligations.EveryCommandCompletes
  exact exec_completes

end Sys2Proof.Machine
end
